-- ==== Sys2Proof/Word.lean ====
section
/-! DEFINITION. The machine's two word types (00_scope.md R6: registers and memory of 8 bits,
register pairs and addresses of 16 bits). -/

namespace Sys2Proof

/-- The addressable unit and the width of a general register (R6). -/
abbrev Byte := BitVec 8

/-- The width of a register pair, of `PC`, of `SP` and of an address (R6). -/
abbrev Word := BitVec 16

end Sys2Proof
end

