-- ==== Sys2Proof/Config.lean ====
section
/-! DEFINITION. The parameters the spec gives the model (00_scope.md R6) and its one free value.
The parameters are data that the state carries unchanged (log entry 2), so that every statement
over all states is a statement over all their values. -/

namespace Sys2Proof

/-- `PROFILE` (R5): which opcodes decode. -/
inductive Profile where
  /-- Only the instructions the source names (Tier S). -/
  | sourceNamed
  /-- The whole SM83 set (Tiers S and G), the spec's default. -/
  | sm83Complete
  deriving DecidableEq, Repr

/-- `IE_WIDTH` (R33): how many bits of IE are stored. -/
inductive IeWidth where
  /-- 5 bits, the source's value and the default. -/
  | five
  /-- 8 bits. -/
  | eight
  deriving DecidableEq, Repr

/-- `VECTOR[0..4]` (R354): the service address of each interrupt source. -/
structure Vectors where
  vblank : Word
  lcdStat : Word
  timer : Word
  serial : Word
  joypad : Word
  deriving DecidableEq, Repr

/-- The launch parameters `PROFILE`, `IE_WIDTH` and `VECTOR` of R6. -/
structure Config where
  profile : Profile
  ieWidth : IeWidth
  vectors : Vectors
  deriving DecidableEq, Repr

namespace Config

/-- The defaults of R6 and R354. -/
def default : Config :=
  { profile := .sm83Complete
    ieWidth := .five
    vectors :=
      { vblank := 0x0040#16, lcdStat := 0x0048#16, timer := 0x0050#16
        serial := 0x0058#16, joypad := 0x0060#16 } }

/-- FREE VALUE (log entry 1). `INITIAL_IMAGE` at the addresses nothing has loaded or written
(R41: "a model must treat it as part of `INITIAL_IMAGE` (universally quantified or drawn), never as
zero by default"). It has no body: no proof can rest on a value of it. -/
opaque initialImage : Word → Byte

end Config

end Sys2Proof
end

