-- ==== Sys2Proof/Syntax.lean ====
section
/-! DEFINITION. The instructions: one constructor for each mnemonic of spec/opcode_table.json
(30_encoding.md R97 to R102), an immediate (R96) being the constructor's argument, and the names of
the operand fields (R92 to R95). -/

namespace Sys2Proof

/-- The seven registers the 3-bit register field can name (30_encoding.md R92). -/
inductive Reg8 where
  | a | b | c | d | e | h | l
  deriving DecidableEq, Repr

/-- The 8-bit operand field of R92: a register, or the byte of memory at address `HL`. -/
inductive Operand8 where
  | reg (r : Reg8)
  | mHL
  deriving DecidableEq, Repr

/-- The pairs of `LD rr,d16`, `INC rr`, `DEC rr`, `ADD HL,rr` (R93, column `r16`). -/
inductive Pair16 where
  | bc | de | hl | sp
  deriving DecidableEq, Repr

/-- The pairs of `PUSH` and `POP` (R93, column `r16stk`). -/
inductive StackPair where
  | bc | de | hl | af
  deriving DecidableEq, Repr

/-- The conditions of `JP cc`, `JR cc`, `CALL cc`, `RET cc` (R94). -/
inductive Cond where
  | nz | z | nc | c
  deriving DecidableEq, Repr

/-- The eight operations of the ALU field (R95). -/
inductive AluOp where
  | add | adc | sub | sbc | and | xor | or | cp
  deriving DecidableEq, Repr

/-- The eight rotates and shifts of the CB table (R102, x = 0). -/
inductive ShiftOp where
  | rlc | rrc | rl | rr | sla | sra | swap | srl
  deriving DecidableEq, Repr

/-- A 3-bit field: `y` or `z` of an opcode (R91), a bit number of `BIT`, `RES`, `SET` (R102). -/
inductive Oct where
  | o0 | o1 | o2 | o3 | o4 | o5 | o6 | o7
  deriving DecidableEq, Repr

/-- The number a 3-bit field stands for. -/
def Oct.toNat : Oct → Nat
  | .o0 => 0 | .o1 => 1 | .o2 => 2 | .o3 => 3 | .o4 => 4 | .o5 => 5 | .o6 => 6 | .o7 => 7

/-- The tier of an opcode (00_scope.md R5): named by the source, general knowledge, unmapped. -/
inductive Tier where
  | S | G | X
  deriving DecidableEq, Repr

/-- The instructions. `(HL)`, `(BC)`, ... of the table are written `mHL`, `mBC`, ... The constructors
with an argument stand first (Lean limits the number of a constructor with fields), each part in
the order of the table. -/
inductive Instr where
  /-- `LD BC,d16` (R260). -/
  | ld_BC_d16 (d16 : Word)
  /-- `LD B,d8` (R221). -/
  | ld_B_d8 (d8 : Byte)
  /-- `LD (a16),SP` (R262). -/
  | ld_ma16_SP (a16 : Word)
  /-- `LD C,d8` (R221). -/
  | ld_C_d8 (d8 : Byte)
  /-- `LD DE,d16` (R260). -/
  | ld_DE_d16 (d16 : Word)
  /-- `LD D,d8` (R221). -/
  | ld_D_d8 (d8 : Byte)
  /-- `JR e8` (R283). -/
  | jr_e8 (e8 : Byte)
  /-- `LD E,d8` (R221). -/
  | ld_E_d8 (d8 : Byte)
  /-- `JR NZ,e8` (R284). -/
  | jr_NZ_e8 (e8 : Byte)
  /-- `LD HL,d16` (R260). -/
  | ld_HL_d16 (d16 : Word)
  /-- `LD H,d8` (R221). -/
  | ld_H_d8 (d8 : Byte)
  /-- `JR Z,e8` (R284). -/
  | jr_Z_e8 (e8 : Byte)
  /-- `LD L,d8` (R221). -/
  | ld_L_d8 (d8 : Byte)
  /-- `JR NC,e8` (R284). -/
  | jr_NC_e8 (e8 : Byte)
  /-- `LD SP,d16` (R260). -/
  | ld_SP_d16 (d16 : Word)
  /-- `LD (HL),d8` (R224). -/
  | ld_mHL_d8 (d8 : Byte)
  /-- `JR C,e8` (R284). -/
  | jr_C_e8 (e8 : Byte)
  /-- `LD A,d8` (R221). -/
  | ld_A_d8 (d8 : Byte)
  /-- `JP NZ,a16` (R282). -/
  | jp_NZ_a16 (a16 : Word)
  /-- `JP a16` (R281). -/
  | jp_a16 (a16 : Word)
  /-- `CALL NZ,a16` (R286). -/
  | call_NZ_a16 (a16 : Word)
  /-- `ADD A,d8` (R172). -/
  | add_A_d8 (d8 : Byte)
  /-- `JP Z,a16` (R282). -/
  | jp_Z_a16 (a16 : Word)
  /-- The byte `0xCB` before a second byte `cb` that the CB table maps to no instruction (R101, R103);
  a mapped second byte gives the CB instruction itself. -/
  | prefix_CB (cb : Byte)
  /-- `CALL Z,a16` (R286). -/
  | call_Z_a16 (a16 : Word)
  /-- `CALL a16` (R285). -/
  | call_a16 (a16 : Word)
  /-- `ADC A,d8` (R175). -/
  | adc_A_d8 (d8 : Byte)
  /-- `JP NC,a16` (R282). -/
  | jp_NC_a16 (a16 : Word)
  /-- The opcode `op`, which the base table maps to no instruction (R103): its fetch raises DecodeFailure. -/
  | unmapped (op : Byte)
  /-- `CALL NC,a16` (R286). -/
  | call_NC_a16 (a16 : Word)
  /-- `SUB d8` (R178). -/
  | sub_d8 (d8 : Byte)
  /-- `JP C,a16` (R282). -/
  | jp_C_a16 (a16 : Word)
  /-- `CALL C,a16` (R286). -/
  | call_C_a16 (a16 : Word)
  /-- `SBC A,d8` (R181). -/
  | sbc_A_d8 (d8 : Byte)
  /-- `LDH (a8),A` (R233). -/
  | ldh_ma8_A (a8 : Byte)
  /-- `AND d8` (R184). -/
  | and_d8 (d8 : Byte)
  /-- `ADD SP,e8` (R213). -/
  | add_SP_e8 (e8 : Byte)
  /-- `LD (a16),A` (R237). -/
  | ld_ma16_A (a16 : Word)
  /-- `XOR d8` (R187). -/
  | xor_d8 (d8 : Byte)
  /-- `LDH A,(a8)` (R234). -/
  | ldh_A_ma8 (a8 : Byte)
  /-- `OR d8` (R190). -/
  | or_d8 (d8 : Byte)
  /-- `LD HL,SP+e8` (R263). -/
  | ld_HL_SPe8 (e8 : Byte)
  /-- `LD A,(a16)` (R238). -/
  | ld_A_ma16 (a16 : Word)
  /-- `CP d8` (R193). -/
  | cp_d8 (d8 : Byte)
  /-- `NOP` (R310). -/
  | nop
  /-- `LD (BC),A` (R225). -/
  | ld_mBC_A
  /-- `INC BC` (R211). -/
  | inc_BC
  /-- `INC B` (R194). -/
  | inc_B
  /-- `DEC B` (R196). -/
  | dec_B
  /-- `RLCA` (R202). -/
  | rlca
  /-- `ADD HL,BC` (R210). -/
  | add_HL_BC
  /-- `LD A,(BC)` (R227). -/
  | ld_A_mBC
  /-- `DEC BC` (R212). -/
  | dec_BC
  /-- `INC C` (R194). -/
  | inc_C
  /-- `DEC C` (R196). -/
  | dec_C
  /-- `RRCA` (R204). -/
  | rrca
  /-- Opcode `0x10`, `STOP` on the SM83, unmapped here (R314): its fetch raises DecodeFailure. -/
  | unmapped_STOP
  /-- `LD (DE),A` (R226). -/
  | ld_mDE_A
  /-- `INC DE` (R211). -/
  | inc_DE
  /-- `INC D` (R194). -/
  | inc_D
  /-- `DEC D` (R196). -/
  | dec_D
  /-- `RLA` (R203). -/
  | rla
  /-- `ADD HL,DE` (R210). -/
  | add_HL_DE
  /-- `LD A,(DE)` (R228). -/
  | ld_A_mDE
  /-- `DEC DE` (R212). -/
  | dec_DE
  /-- `INC E` (R194). -/
  | inc_E
  /-- `DEC E` (R196). -/
  | dec_E
  /-- `RRA` (R205). -/
  | rra
  /-- `LD (HL+),A` (R229). -/
  | ld_mHLinc_A
  /-- `INC HL` (R211). -/
  | inc_HL
  /-- `INC H` (R194). -/
  | inc_H
  /-- `DEC H` (R196). -/
  | dec_H
  /-- `DAA` (R198). -/
  | daa
  /-- `ADD HL,HL` (R210). -/
  | add_HL_HL
  /-- `LD A,(HL+)` (R231). -/
  | ld_A_mHLinc
  /-- `DEC HL` (R212). -/
  | dec_HL
  /-- `INC L` (R194). -/
  | inc_L
  /-- `DEC L` (R196). -/
  | dec_L
  /-- `CPL` (R199). -/
  | cpl
  /-- `LD (HL-),A` (R230). -/
  | ld_mHLdec_A
  /-- `INC SP` (R211). -/
  | inc_SP
  /-- `INC (HL)` (R195). -/
  | inc_mHL
  /-- `DEC (HL)` (R197). -/
  | dec_mHL
  /-- `SCF` (R200). -/
  | scf
  /-- `ADD HL,SP` (R210). -/
  | add_HL_SP
  /-- `LD A,(HL-)` (R232). -/
  | ld_A_mHLdec
  /-- `DEC SP` (R212). -/
  | dec_SP
  /-- `INC A` (R194). -/
  | inc_A
  /-- `DEC A` (R196). -/
  | dec_A
  /-- `CCF` (R201). -/
  | ccf
  /-- `LD B,B` (R220). -/
  | ld_B_B
  /-- `LD B,C` (R220). -/
  | ld_B_C
  /-- `LD B,D` (R220). -/
  | ld_B_D
  /-- `LD B,E` (R220). -/
  | ld_B_E
  /-- `LD B,H` (R220). -/
  | ld_B_H
  /-- `LD B,L` (R220). -/
  | ld_B_L
  /-- `LD B,(HL)` (R222). -/
  | ld_B_mHL
  /-- `LD B,A` (R220). -/
  | ld_B_A
  /-- `LD C,B` (R220). -/
  | ld_C_B
  /-- `LD C,C` (R220). -/
  | ld_C_C
  /-- `LD C,D` (R220). -/
  | ld_C_D
  /-- `LD C,E` (R220). -/
  | ld_C_E
  /-- `LD C,H` (R220). -/
  | ld_C_H
  /-- `LD C,L` (R220). -/
  | ld_C_L
  /-- `LD C,(HL)` (R222). -/
  | ld_C_mHL
  /-- `LD C,A` (R220). -/
  | ld_C_A
  /-- `LD D,B` (R220). -/
  | ld_D_B
  /-- `LD D,C` (R220). -/
  | ld_D_C
  /-- `LD D,D` (R220). -/
  | ld_D_D
  /-- `LD D,E` (R220). -/
  | ld_D_E
  /-- `LD D,H` (R220). -/
  | ld_D_H
  /-- `LD D,L` (R220). -/
  | ld_D_L
  /-- `LD D,(HL)` (R222). -/
  | ld_D_mHL
  /-- `LD D,A` (R220). -/
  | ld_D_A
  /-- `LD E,B` (R220). -/
  | ld_E_B
  /-- `LD E,C` (R220). -/
  | ld_E_C
  /-- `LD E,D` (R220). -/
  | ld_E_D
  /-- `LD E,E` (R220). -/
  | ld_E_E
  /-- `LD E,H` (R220). -/
  | ld_E_H
  /-- `LD E,L` (R220). -/
  | ld_E_L
  /-- `LD E,(HL)` (R222). -/
  | ld_E_mHL
  /-- `LD E,A` (R220). -/
  | ld_E_A
  /-- `LD H,B` (R220). -/
  | ld_H_B
  /-- `LD H,C` (R220). -/
  | ld_H_C
  /-- `LD H,D` (R220). -/
  | ld_H_D
  /-- `LD H,E` (R220). -/
  | ld_H_E
  /-- `LD H,H` (R220). -/
  | ld_H_H
  /-- `LD H,L` (R220). -/
  | ld_H_L
  /-- `LD H,(HL)` (R222). -/
  | ld_H_mHL
  /-- `LD H,A` (R220). -/
  | ld_H_A
  /-- `LD L,B` (R220). -/
  | ld_L_B
  /-- `LD L,C` (R220). -/
  | ld_L_C
  /-- `LD L,D` (R220). -/
  | ld_L_D
  /-- `LD L,E` (R220). -/
  | ld_L_E
  /-- `LD L,H` (R220). -/
  | ld_L_H
  /-- `LD L,L` (R220). -/
  | ld_L_L
  /-- `LD L,(HL)` (R222). -/
  | ld_L_mHL
  /-- `LD L,A` (R220). -/
  | ld_L_A
  /-- `LD (HL),B` (R223). -/
  | ld_mHL_B
  /-- `LD (HL),C` (R223). -/
  | ld_mHL_C
  /-- `LD (HL),D` (R223). -/
  | ld_mHL_D
  /-- `LD (HL),E` (R223). -/
  | ld_mHL_E
  /-- `LD (HL),H` (R223). -/
  | ld_mHL_H
  /-- `LD (HL),L` (R223). -/
  | ld_mHL_L
  /-- `HALT` (R311). -/
  | halt
  /-- `LD (HL),A` (R223). -/
  | ld_mHL_A
  /-- `LD A,B` (R220). -/
  | ld_A_B
  /-- `LD A,C` (R220). -/
  | ld_A_C
  /-- `LD A,D` (R220). -/
  | ld_A_D
  /-- `LD A,E` (R220). -/
  | ld_A_E
  /-- `LD A,H` (R220). -/
  | ld_A_H
  /-- `LD A,L` (R220). -/
  | ld_A_L
  /-- `LD A,(HL)` (R222). -/
  | ld_A_mHL
  /-- `LD A,A` (R220). -/
  | ld_A_A
  /-- `ADD A,B` (R170). -/
  | add_A_B
  /-- `ADD A,C` (R170). -/
  | add_A_C
  /-- `ADD A,D` (R170). -/
  | add_A_D
  /-- `ADD A,E` (R170). -/
  | add_A_E
  /-- `ADD A,H` (R170). -/
  | add_A_H
  /-- `ADD A,L` (R170). -/
  | add_A_L
  /-- `ADD A,(HL)` (R171). -/
  | add_A_mHL
  /-- `ADD A,A` (R170). -/
  | add_A_A
  /-- `ADC A,B` (R173). -/
  | adc_A_B
  /-- `ADC A,C` (R173). -/
  | adc_A_C
  /-- `ADC A,D` (R173). -/
  | adc_A_D
  /-- `ADC A,E` (R173). -/
  | adc_A_E
  /-- `ADC A,H` (R173). -/
  | adc_A_H
  /-- `ADC A,L` (R173). -/
  | adc_A_L
  /-- `ADC A,(HL)` (R174). -/
  | adc_A_mHL
  /-- `ADC A,A` (R173). -/
  | adc_A_A
  /-- `SUB B` (R176). -/
  | sub_B
  /-- `SUB C` (R176). -/
  | sub_C
  /-- `SUB D` (R176). -/
  | sub_D
  /-- `SUB E` (R176). -/
  | sub_E
  /-- `SUB H` (R176). -/
  | sub_H
  /-- `SUB L` (R176). -/
  | sub_L
  /-- `SUB (HL)` (R177). -/
  | sub_mHL
  /-- `SUB A` (R176). -/
  | sub_A
  /-- `SBC A,B` (R179). -/
  | sbc_A_B
  /-- `SBC A,C` (R179). -/
  | sbc_A_C
  /-- `SBC A,D` (R179). -/
  | sbc_A_D
  /-- `SBC A,E` (R179). -/
  | sbc_A_E
  /-- `SBC A,H` (R179). -/
  | sbc_A_H
  /-- `SBC A,L` (R179). -/
  | sbc_A_L
  /-- `SBC A,(HL)` (R180). -/
  | sbc_A_mHL
  /-- `SBC A,A` (R179). -/
  | sbc_A_A
  /-- `AND B` (R182). -/
  | and_B
  /-- `AND C` (R182). -/
  | and_C
  /-- `AND D` (R182). -/
  | and_D
  /-- `AND E` (R182). -/
  | and_E
  /-- `AND H` (R182). -/
  | and_H
  /-- `AND L` (R182). -/
  | and_L
  /-- `AND (HL)` (R183). -/
  | and_mHL
  /-- `AND A` (R182). -/
  | and_A
  /-- `XOR B` (R185). -/
  | xor_B
  /-- `XOR C` (R185). -/
  | xor_C
  /-- `XOR D` (R185). -/
  | xor_D
  /-- `XOR E` (R185). -/
  | xor_E
  /-- `XOR H` (R185). -/
  | xor_H
  /-- `XOR L` (R185). -/
  | xor_L
  /-- `XOR (HL)` (R186). -/
  | xor_mHL
  /-- `XOR A` (R185). -/
  | xor_A
  /-- `OR B` (R188). -/
  | or_B
  /-- `OR C` (R188). -/
  | or_C
  /-- `OR D` (R188). -/
  | or_D
  /-- `OR E` (R188). -/
  | or_E
  /-- `OR H` (R188). -/
  | or_H
  /-- `OR L` (R188). -/
  | or_L
  /-- `OR (HL)` (R189). -/
  | or_mHL
  /-- `OR A` (R188). -/
  | or_A
  /-- `CP B` (R191). -/
  | cp_B
  /-- `CP C` (R191). -/
  | cp_C
  /-- `CP D` (R191). -/
  | cp_D
  /-- `CP E` (R191). -/
  | cp_E
  /-- `CP H` (R191). -/
  | cp_H
  /-- `CP L` (R191). -/
  | cp_L
  /-- `CP (HL)` (R192). -/
  | cp_mHL
  /-- `CP A` (R191). -/
  | cp_A
  /-- `RET NZ` (R288). -/
  | ret_NZ
  /-- `POP BC` (R265). -/
  | pop_BC
  /-- `PUSH BC` (R264). -/
  | push_BC
  /-- `RST 0x00` (R290). -/
  | rst_00
  /-- `RET Z` (R288). -/
  | ret_Z
  /-- `RET` (R287). -/
  | ret
  /-- `RST 0x08` (R290). -/
  | rst_08
  /-- `RET NC` (R288). -/
  | ret_NC
  /-- `POP DE` (R265). -/
  | pop_DE
  /-- `PUSH DE` (R264). -/
  | push_DE
  /-- `RST 0x10` (R290). -/
  | rst_10
  /-- `RET C` (R288). -/
  | ret_C
  /-- `RETI` (R291). -/
  | reti
  /-- `RST 0x18` (R290). -/
  | rst_18
  /-- `POP HL` (R265). -/
  | pop_HL
  /-- `LD (C),A` (R235). -/
  | ld_mC_A
  /-- `PUSH HL` (R264). -/
  | push_HL
  /-- `RST 0x20` (R290). -/
  | rst_20
  /-- `JP HL` (R289). -/
  | jp_HL
  /-- `RST 0x28` (R290). -/
  | rst_28
  /-- `POP AF` (R265). -/
  | pop_AF
  /-- `LD A,(C)` (R236). -/
  | ld_A_mC
  /-- `DI` (R313). -/
  | di
  /-- `PUSH AF` (R264). -/
  | push_AF
  /-- `RST 0x30` (R290). -/
  | rst_30
  /-- `LD SP,HL` (R261). -/
  | ld_SP_HL
  /-- `EI` (R312). -/
  | ei
  /-- `RST 0x38` (R290). -/
  | rst_38
  /-- `RLC B` (R320). -/
  | rlc_B
  /-- `RLC C` (R320). -/
  | rlc_C
  /-- `RLC D` (R320). -/
  | rlc_D
  /-- `RLC E` (R320). -/
  | rlc_E
  /-- `RLC H` (R320). -/
  | rlc_H
  /-- `RLC L` (R320). -/
  | rlc_L
  /-- `RLC (HL)` (R321). -/
  | rlc_mHL
  /-- `RLC A` (R320). -/
  | rlc_A
  /-- `RRC B` (R322). -/
  | rrc_B
  /-- `RRC C` (R322). -/
  | rrc_C
  /-- `RRC D` (R322). -/
  | rrc_D
  /-- `RRC E` (R322). -/
  | rrc_E
  /-- `RRC H` (R322). -/
  | rrc_H
  /-- `RRC L` (R322). -/
  | rrc_L
  /-- `RRC (HL)` (R323). -/
  | rrc_mHL
  /-- `RRC A` (R322). -/
  | rrc_A
  /-- `RL B` (R324). -/
  | rl_B
  /-- `RL C` (R324). -/
  | rl_C
  /-- `RL D` (R324). -/
  | rl_D
  /-- `RL E` (R324). -/
  | rl_E
  /-- `RL H` (R324). -/
  | rl_H
  /-- `RL L` (R324). -/
  | rl_L
  /-- `RL (HL)` (R325). -/
  | rl_mHL
  /-- `RL A` (R324). -/
  | rl_A
  /-- `RR B` (R326). -/
  | rr_B
  /-- `RR C` (R326). -/
  | rr_C
  /-- `RR D` (R326). -/
  | rr_D
  /-- `RR E` (R326). -/
  | rr_E
  /-- `RR H` (R326). -/
  | rr_H
  /-- `RR L` (R326). -/
  | rr_L
  /-- `RR (HL)` (R327). -/
  | rr_mHL
  /-- `RR A` (R326). -/
  | rr_A
  /-- `SLA B` (R328). -/
  | sla_B
  /-- `SLA C` (R328). -/
  | sla_C
  /-- `SLA D` (R328). -/
  | sla_D
  /-- `SLA E` (R328). -/
  | sla_E
  /-- `SLA H` (R328). -/
  | sla_H
  /-- `SLA L` (R328). -/
  | sla_L
  /-- `SLA (HL)` (R329). -/
  | sla_mHL
  /-- `SLA A` (R328). -/
  | sla_A
  /-- `SRA B` (R330). -/
  | sra_B
  /-- `SRA C` (R330). -/
  | sra_C
  /-- `SRA D` (R330). -/
  | sra_D
  /-- `SRA E` (R330). -/
  | sra_E
  /-- `SRA H` (R330). -/
  | sra_H
  /-- `SRA L` (R330). -/
  | sra_L
  /-- `SRA (HL)` (R331). -/
  | sra_mHL
  /-- `SRA A` (R330). -/
  | sra_A
  /-- `SWAP B` (R332). -/
  | swap_B
  /-- `SWAP C` (R332). -/
  | swap_C
  /-- `SWAP D` (R332). -/
  | swap_D
  /-- `SWAP E` (R332). -/
  | swap_E
  /-- `SWAP H` (R332). -/
  | swap_H
  /-- `SWAP L` (R332). -/
  | swap_L
  /-- `SWAP (HL)` (R333). -/
  | swap_mHL
  /-- `SWAP A` (R332). -/
  | swap_A
  /-- `SRL B` (R334). -/
  | srl_B
  /-- `SRL C` (R334). -/
  | srl_C
  /-- `SRL D` (R334). -/
  | srl_D
  /-- `SRL E` (R334). -/
  | srl_E
  /-- `SRL H` (R334). -/
  | srl_H
  /-- `SRL L` (R334). -/
  | srl_L
  /-- `SRL (HL)` (R335). -/
  | srl_mHL
  /-- `SRL A` (R334). -/
  | srl_A
  /-- `BIT 0,B` (R336). -/
  | bit_0_B
  /-- `BIT 0,C` (R336). -/
  | bit_0_C
  /-- `BIT 0,D` (R336). -/
  | bit_0_D
  /-- `BIT 0,E` (R336). -/
  | bit_0_E
  /-- `BIT 0,H` (R336). -/
  | bit_0_H
  /-- `BIT 0,L` (R336). -/
  | bit_0_L
  /-- `BIT 0,(HL)` (R337). -/
  | bit_0_mHL
  /-- `BIT 0,A` (R336). -/
  | bit_0_A
  /-- `BIT 1,B` (R336). -/
  | bit_1_B
  /-- `BIT 1,C` (R336). -/
  | bit_1_C
  /-- `BIT 1,D` (R336). -/
  | bit_1_D
  /-- `BIT 1,E` (R336). -/
  | bit_1_E
  /-- `BIT 1,H` (R336). -/
  | bit_1_H
  /-- `BIT 1,L` (R336). -/
  | bit_1_L
  /-- `BIT 1,(HL)` (R337). -/
  | bit_1_mHL
  /-- `BIT 1,A` (R336). -/
  | bit_1_A
  /-- `BIT 2,B` (R336). -/
  | bit_2_B
  /-- `BIT 2,C` (R336). -/
  | bit_2_C
  /-- `BIT 2,D` (R336). -/
  | bit_2_D
  /-- `BIT 2,E` (R336). -/
  | bit_2_E
  /-- `BIT 2,H` (R336). -/
  | bit_2_H
  /-- `BIT 2,L` (R336). -/
  | bit_2_L
  /-- `BIT 2,(HL)` (R337). -/
  | bit_2_mHL
  /-- `BIT 2,A` (R336). -/
  | bit_2_A
  /-- `BIT 3,B` (R336). -/
  | bit_3_B
  /-- `BIT 3,C` (R336). -/
  | bit_3_C
  /-- `BIT 3,D` (R336). -/
  | bit_3_D
  /-- `BIT 3,E` (R336). -/
  | bit_3_E
  /-- `BIT 3,H` (R336). -/
  | bit_3_H
  /-- `BIT 3,L` (R336). -/
  | bit_3_L
  /-- `BIT 3,(HL)` (R337). -/
  | bit_3_mHL
  /-- `BIT 3,A` (R336). -/
  | bit_3_A
  /-- `BIT 4,B` (R336). -/
  | bit_4_B
  /-- `BIT 4,C` (R336). -/
  | bit_4_C
  /-- `BIT 4,D` (R336). -/
  | bit_4_D
  /-- `BIT 4,E` (R336). -/
  | bit_4_E
  /-- `BIT 4,H` (R336). -/
  | bit_4_H
  /-- `BIT 4,L` (R336). -/
  | bit_4_L
  /-- `BIT 4,(HL)` (R337). -/
  | bit_4_mHL
  /-- `BIT 4,A` (R336). -/
  | bit_4_A
  /-- `BIT 5,B` (R336). -/
  | bit_5_B
  /-- `BIT 5,C` (R336). -/
  | bit_5_C
  /-- `BIT 5,D` (R336). -/
  | bit_5_D
  /-- `BIT 5,E` (R336). -/
  | bit_5_E
  /-- `BIT 5,H` (R336). -/
  | bit_5_H
  /-- `BIT 5,L` (R336). -/
  | bit_5_L
  /-- `BIT 5,(HL)` (R337). -/
  | bit_5_mHL
  /-- `BIT 5,A` (R336). -/
  | bit_5_A
  /-- `BIT 6,B` (R336). -/
  | bit_6_B
  /-- `BIT 6,C` (R336). -/
  | bit_6_C
  /-- `BIT 6,D` (R336). -/
  | bit_6_D
  /-- `BIT 6,E` (R336). -/
  | bit_6_E
  /-- `BIT 6,H` (R336). -/
  | bit_6_H
  /-- `BIT 6,L` (R336). -/
  | bit_6_L
  /-- `BIT 6,(HL)` (R337). -/
  | bit_6_mHL
  /-- `BIT 6,A` (R336). -/
  | bit_6_A
  /-- `BIT 7,B` (R336). -/
  | bit_7_B
  /-- `BIT 7,C` (R336). -/
  | bit_7_C
  /-- `BIT 7,D` (R336). -/
  | bit_7_D
  /-- `BIT 7,E` (R336). -/
  | bit_7_E
  /-- `BIT 7,H` (R336). -/
  | bit_7_H
  /-- `BIT 7,L` (R336). -/
  | bit_7_L
  /-- `BIT 7,(HL)` (R337). -/
  | bit_7_mHL
  /-- `BIT 7,A` (R336). -/
  | bit_7_A
  /-- `RES 0,B` (R338). -/
  | res_0_B
  /-- `RES 0,C` (R338). -/
  | res_0_C
  /-- `RES 0,D` (R338). -/
  | res_0_D
  /-- `RES 0,E` (R338). -/
  | res_0_E
  /-- `RES 0,H` (R338). -/
  | res_0_H
  /-- `RES 0,L` (R338). -/
  | res_0_L
  /-- `RES 0,(HL)` (R339). -/
  | res_0_mHL
  /-- `RES 0,A` (R338). -/
  | res_0_A
  /-- `RES 1,B` (R338). -/
  | res_1_B
  /-- `RES 1,C` (R338). -/
  | res_1_C
  /-- `RES 1,D` (R338). -/
  | res_1_D
  /-- `RES 1,E` (R338). -/
  | res_1_E
  /-- `RES 1,H` (R338). -/
  | res_1_H
  /-- `RES 1,L` (R338). -/
  | res_1_L
  /-- `RES 1,(HL)` (R339). -/
  | res_1_mHL
  /-- `RES 1,A` (R338). -/
  | res_1_A
  /-- `RES 2,B` (R338). -/
  | res_2_B
  /-- `RES 2,C` (R338). -/
  | res_2_C
  /-- `RES 2,D` (R338). -/
  | res_2_D
  /-- `RES 2,E` (R338). -/
  | res_2_E
  /-- `RES 2,H` (R338). -/
  | res_2_H
  /-- `RES 2,L` (R338). -/
  | res_2_L
  /-- `RES 2,(HL)` (R339). -/
  | res_2_mHL
  /-- `RES 2,A` (R338). -/
  | res_2_A
  /-- `RES 3,B` (R338). -/
  | res_3_B
  /-- `RES 3,C` (R338). -/
  | res_3_C
  /-- `RES 3,D` (R338). -/
  | res_3_D
  /-- `RES 3,E` (R338). -/
  | res_3_E
  /-- `RES 3,H` (R338). -/
  | res_3_H
  /-- `RES 3,L` (R338). -/
  | res_3_L
  /-- `RES 3,(HL)` (R339). -/
  | res_3_mHL
  /-- `RES 3,A` (R338). -/
  | res_3_A
  /-- `RES 4,B` (R338). -/
  | res_4_B
  /-- `RES 4,C` (R338). -/
  | res_4_C
  /-- `RES 4,D` (R338). -/
  | res_4_D
  /-- `RES 4,E` (R338). -/
  | res_4_E
  /-- `RES 4,H` (R338). -/
  | res_4_H
  /-- `RES 4,L` (R338). -/
  | res_4_L
  /-- `RES 4,(HL)` (R339). -/
  | res_4_mHL
  /-- `RES 4,A` (R338). -/
  | res_4_A
  /-- `RES 5,B` (R338). -/
  | res_5_B
  /-- `RES 5,C` (R338). -/
  | res_5_C
  /-- `RES 5,D` (R338). -/
  | res_5_D
  /-- `RES 5,E` (R338). -/
  | res_5_E
  /-- `RES 5,H` (R338). -/
  | res_5_H
  /-- `RES 5,L` (R338). -/
  | res_5_L
  /-- `RES 5,(HL)` (R339). -/
  | res_5_mHL
  /-- `RES 5,A` (R338). -/
  | res_5_A
  /-- `RES 6,B` (R338). -/
  | res_6_B
  /-- `RES 6,C` (R338). -/
  | res_6_C
  /-- `RES 6,D` (R338). -/
  | res_6_D
  /-- `RES 6,E` (R338). -/
  | res_6_E
  /-- `RES 6,H` (R338). -/
  | res_6_H
  /-- `RES 6,L` (R338). -/
  | res_6_L
  /-- `RES 6,(HL)` (R339). -/
  | res_6_mHL
  /-- `RES 6,A` (R338). -/
  | res_6_A
  /-- `RES 7,B` (R338). -/
  | res_7_B
  /-- `RES 7,C` (R338). -/
  | res_7_C
  /-- `RES 7,D` (R338). -/
  | res_7_D
  /-- `RES 7,E` (R338). -/
  | res_7_E
  /-- `RES 7,H` (R338). -/
  | res_7_H
  /-- `RES 7,L` (R338). -/
  | res_7_L
  /-- `RES 7,(HL)` (R339). -/
  | res_7_mHL
  /-- `RES 7,A` (R338). -/
  | res_7_A
  /-- `SET 0,B` (R340). -/
  | set_0_B
  /-- `SET 0,C` (R340). -/
  | set_0_C
  /-- `SET 0,D` (R340). -/
  | set_0_D
  /-- `SET 0,E` (R340). -/
  | set_0_E
  /-- `SET 0,H` (R340). -/
  | set_0_H
  /-- `SET 0,L` (R340). -/
  | set_0_L
  /-- `SET 0,(HL)` (R341). -/
  | set_0_mHL
  /-- `SET 0,A` (R340). -/
  | set_0_A
  /-- `SET 1,B` (R340). -/
  | set_1_B
  /-- `SET 1,C` (R340). -/
  | set_1_C
  /-- `SET 1,D` (R340). -/
  | set_1_D
  /-- `SET 1,E` (R340). -/
  | set_1_E
  /-- `SET 1,H` (R340). -/
  | set_1_H
  /-- `SET 1,L` (R340). -/
  | set_1_L
  /-- `SET 1,(HL)` (R341). -/
  | set_1_mHL
  /-- `SET 1,A` (R340). -/
  | set_1_A
  /-- `SET 2,B` (R340). -/
  | set_2_B
  /-- `SET 2,C` (R340). -/
  | set_2_C
  /-- `SET 2,D` (R340). -/
  | set_2_D
  /-- `SET 2,E` (R340). -/
  | set_2_E
  /-- `SET 2,H` (R340). -/
  | set_2_H
  /-- `SET 2,L` (R340). -/
  | set_2_L
  /-- `SET 2,(HL)` (R341). -/
  | set_2_mHL
  /-- `SET 2,A` (R340). -/
  | set_2_A
  /-- `SET 3,B` (R340). -/
  | set_3_B
  /-- `SET 3,C` (R340). -/
  | set_3_C
  /-- `SET 3,D` (R340). -/
  | set_3_D
  /-- `SET 3,E` (R340). -/
  | set_3_E
  /-- `SET 3,H` (R340). -/
  | set_3_H
  /-- `SET 3,L` (R340). -/
  | set_3_L
  /-- `SET 3,(HL)` (R341). -/
  | set_3_mHL
  /-- `SET 3,A` (R340). -/
  | set_3_A
  /-- `SET 4,B` (R340). -/
  | set_4_B
  /-- `SET 4,C` (R340). -/
  | set_4_C
  /-- `SET 4,D` (R340). -/
  | set_4_D
  /-- `SET 4,E` (R340). -/
  | set_4_E
  /-- `SET 4,H` (R340). -/
  | set_4_H
  /-- `SET 4,L` (R340). -/
  | set_4_L
  /-- `SET 4,(HL)` (R341). -/
  | set_4_mHL
  /-- `SET 4,A` (R340). -/
  | set_4_A
  /-- `SET 5,B` (R340). -/
  | set_5_B
  /-- `SET 5,C` (R340). -/
  | set_5_C
  /-- `SET 5,D` (R340). -/
  | set_5_D
  /-- `SET 5,E` (R340). -/
  | set_5_E
  /-- `SET 5,H` (R340). -/
  | set_5_H
  /-- `SET 5,L` (R340). -/
  | set_5_L
  /-- `SET 5,(HL)` (R341). -/
  | set_5_mHL
  /-- `SET 5,A` (R340). -/
  | set_5_A
  /-- `SET 6,B` (R340). -/
  | set_6_B
  /-- `SET 6,C` (R340). -/
  | set_6_C
  /-- `SET 6,D` (R340). -/
  | set_6_D
  /-- `SET 6,E` (R340). -/
  | set_6_E
  /-- `SET 6,H` (R340). -/
  | set_6_H
  /-- `SET 6,L` (R340). -/
  | set_6_L
  /-- `SET 6,(HL)` (R341). -/
  | set_6_mHL
  /-- `SET 6,A` (R340). -/
  | set_6_A
  /-- `SET 7,B` (R340). -/
  | set_7_B
  /-- `SET 7,C` (R340). -/
  | set_7_C
  /-- `SET 7,D` (R340). -/
  | set_7_D
  /-- `SET 7,E` (R340). -/
  | set_7_E
  /-- `SET 7,H` (R340). -/
  | set_7_H
  /-- `SET 7,L` (R340). -/
  | set_7_L
  /-- `SET 7,(HL)` (R341). -/
  | set_7_mHL
  /-- `SET 7,A` (R340). -/
  | set_7_A
  deriving DecidableEq, Repr

/-- The tier of each row (field `tier` of spec/opcode_table.json). -/
def Instr.tier : Instr → Tier
  | .ld_BC_d16 _ => .S
  | .ld_B_d8 _ => .S
  | .ld_ma16_SP _ => .S
  | .ld_C_d8 _ => .S
  | .ld_DE_d16 _ => .S
  | .ld_D_d8 _ => .S
  | .jr_e8 _ => .S
  | .ld_E_d8 _ => .S
  | .jr_NZ_e8 _ => .S
  | .ld_HL_d16 _ => .S
  | .ld_H_d8 _ => .S
  | .jr_Z_e8 _ => .S
  | .ld_L_d8 _ => .S
  | .jr_NC_e8 _ => .S
  | .ld_SP_d16 _ => .S
  | .ld_mHL_d8 _ => .S
  | .jr_C_e8 _ => .S
  | .ld_A_d8 _ => .S
  | .jp_NZ_a16 _ => .S
  | .jp_a16 _ => .S
  | .call_NZ_a16 _ => .S
  | .add_A_d8 _ => .S
  | .jp_Z_a16 _ => .S
  | .prefix_CB _ => .S
  | .call_Z_a16 _ => .S
  | .call_a16 _ => .S
  | .adc_A_d8 _ => .S
  | .jp_NC_a16 _ => .S
  | .unmapped _ => .X
  | .call_NC_a16 _ => .S
  | .sub_d8 _ => .S
  | .jp_C_a16 _ => .S
  | .call_C_a16 _ => .S
  | .sbc_A_d8 _ => .S
  | .ldh_ma8_A _ => .G
  | .and_d8 _ => .S
  | .add_SP_e8 _ => .G
  | .ld_ma16_A _ => .G
  | .xor_d8 _ => .S
  | .ldh_A_ma8 _ => .G
  | .or_d8 _ => .S
  | .ld_HL_SPe8 _ => .S
  | .ld_A_ma16 _ => .G
  | .cp_d8 _ => .S
  | .nop => .S
  | .ld_mBC_A => .G
  | .inc_BC => .S
  | .inc_B => .S
  | .dec_B => .S
  | .rlca => .S
  | .add_HL_BC => .S
  | .ld_A_mBC => .G
  | .dec_BC => .S
  | .inc_C => .S
  | .dec_C => .S
  | .rrca => .S
  | .unmapped_STOP => .X
  | .ld_mDE_A => .G
  | .inc_DE => .S
  | .inc_D => .S
  | .dec_D => .S
  | .rla => .S
  | .add_HL_DE => .S
  | .ld_A_mDE => .G
  | .dec_DE => .S
  | .inc_E => .S
  | .dec_E => .S
  | .rra => .S
  | .ld_mHLinc_A => .G
  | .inc_HL => .S
  | .inc_H => .S
  | .dec_H => .S
  | .daa => .S
  | .add_HL_HL => .S
  | .ld_A_mHLinc => .G
  | .dec_HL => .S
  | .inc_L => .S
  | .dec_L => .S
  | .cpl => .S
  | .ld_mHLdec_A => .G
  | .inc_SP => .S
  | .inc_mHL => .S
  | .dec_mHL => .S
  | .scf => .S
  | .add_HL_SP => .S
  | .ld_A_mHLdec => .G
  | .dec_SP => .S
  | .inc_A => .S
  | .dec_A => .S
  | .ccf => .S
  | .ld_B_B => .S
  | .ld_B_C => .S
  | .ld_B_D => .S
  | .ld_B_E => .S
  | .ld_B_H => .S
  | .ld_B_L => .S
  | .ld_B_mHL => .S
  | .ld_B_A => .S
  | .ld_C_B => .S
  | .ld_C_C => .S
  | .ld_C_D => .S
  | .ld_C_E => .S
  | .ld_C_H => .S
  | .ld_C_L => .S
  | .ld_C_mHL => .S
  | .ld_C_A => .S
  | .ld_D_B => .S
  | .ld_D_C => .S
  | .ld_D_D => .S
  | .ld_D_E => .S
  | .ld_D_H => .S
  | .ld_D_L => .S
  | .ld_D_mHL => .S
  | .ld_D_A => .S
  | .ld_E_B => .S
  | .ld_E_C => .S
  | .ld_E_D => .S
  | .ld_E_E => .S
  | .ld_E_H => .S
  | .ld_E_L => .S
  | .ld_E_mHL => .S
  | .ld_E_A => .S
  | .ld_H_B => .S
  | .ld_H_C => .S
  | .ld_H_D => .S
  | .ld_H_E => .S
  | .ld_H_H => .S
  | .ld_H_L => .S
  | .ld_H_mHL => .S
  | .ld_H_A => .S
  | .ld_L_B => .S
  | .ld_L_C => .S
  | .ld_L_D => .S
  | .ld_L_E => .S
  | .ld_L_H => .S
  | .ld_L_L => .S
  | .ld_L_mHL => .S
  | .ld_L_A => .S
  | .ld_mHL_B => .S
  | .ld_mHL_C => .S
  | .ld_mHL_D => .S
  | .ld_mHL_E => .S
  | .ld_mHL_H => .S
  | .ld_mHL_L => .S
  | .halt => .S
  | .ld_mHL_A => .S
  | .ld_A_B => .S
  | .ld_A_C => .S
  | .ld_A_D => .S
  | .ld_A_E => .S
  | .ld_A_H => .S
  | .ld_A_L => .S
  | .ld_A_mHL => .S
  | .ld_A_A => .S
  | .add_A_B => .S
  | .add_A_C => .S
  | .add_A_D => .S
  | .add_A_E => .S
  | .add_A_H => .S
  | .add_A_L => .S
  | .add_A_mHL => .S
  | .add_A_A => .S
  | .adc_A_B => .S
  | .adc_A_C => .S
  | .adc_A_D => .S
  | .adc_A_E => .S
  | .adc_A_H => .S
  | .adc_A_L => .S
  | .adc_A_mHL => .S
  | .adc_A_A => .S
  | .sub_B => .S
  | .sub_C => .S
  | .sub_D => .S
  | .sub_E => .S
  | .sub_H => .S
  | .sub_L => .S
  | .sub_mHL => .S
  | .sub_A => .S
  | .sbc_A_B => .S
  | .sbc_A_C => .S
  | .sbc_A_D => .S
  | .sbc_A_E => .S
  | .sbc_A_H => .S
  | .sbc_A_L => .S
  | .sbc_A_mHL => .S
  | .sbc_A_A => .S
  | .and_B => .S
  | .and_C => .S
  | .and_D => .S
  | .and_E => .S
  | .and_H => .S
  | .and_L => .S
  | .and_mHL => .S
  | .and_A => .S
  | .xor_B => .S
  | .xor_C => .S
  | .xor_D => .S
  | .xor_E => .S
  | .xor_H => .S
  | .xor_L => .S
  | .xor_mHL => .S
  | .xor_A => .S
  | .or_B => .S
  | .or_C => .S
  | .or_D => .S
  | .or_E => .S
  | .or_H => .S
  | .or_L => .S
  | .or_mHL => .S
  | .or_A => .S
  | .cp_B => .S
  | .cp_C => .S
  | .cp_D => .S
  | .cp_E => .S
  | .cp_H => .S
  | .cp_L => .S
  | .cp_mHL => .S
  | .cp_A => .S
  | .ret_NZ => .S
  | .pop_BC => .S
  | .push_BC => .S
  | .rst_00 => .G
  | .ret_Z => .S
  | .ret => .S
  | .rst_08 => .G
  | .ret_NC => .S
  | .pop_DE => .S
  | .push_DE => .S
  | .rst_10 => .G
  | .ret_C => .S
  | .reti => .G
  | .rst_18 => .G
  | .pop_HL => .S
  | .ld_mC_A => .G
  | .push_HL => .S
  | .rst_20 => .G
  | .jp_HL => .G
  | .rst_28 => .G
  | .pop_AF => .S
  | .ld_A_mC => .G
  | .di => .S
  | .push_AF => .S
  | .rst_30 => .G
  | .ld_SP_HL => .S
  | .ei => .S
  | .rst_38 => .G
  | .rlc_B => .G
  | .rlc_C => .G
  | .rlc_D => .G
  | .rlc_E => .G
  | .rlc_H => .G
  | .rlc_L => .G
  | .rlc_mHL => .G
  | .rlc_A => .G
  | .rrc_B => .G
  | .rrc_C => .G
  | .rrc_D => .G
  | .rrc_E => .G
  | .rrc_H => .G
  | .rrc_L => .G
  | .rrc_mHL => .G
  | .rrc_A => .G
  | .rl_B => .G
  | .rl_C => .G
  | .rl_D => .G
  | .rl_E => .G
  | .rl_H => .G
  | .rl_L => .G
  | .rl_mHL => .G
  | .rl_A => .G
  | .rr_B => .G
  | .rr_C => .G
  | .rr_D => .G
  | .rr_E => .G
  | .rr_H => .G
  | .rr_L => .G
  | .rr_mHL => .G
  | .rr_A => .G
  | .sla_B => .G
  | .sla_C => .G
  | .sla_D => .G
  | .sla_E => .G
  | .sla_H => .G
  | .sla_L => .G
  | .sla_mHL => .G
  | .sla_A => .G
  | .sra_B => .G
  | .sra_C => .G
  | .sra_D => .G
  | .sra_E => .G
  | .sra_H => .G
  | .sra_L => .G
  | .sra_mHL => .G
  | .sra_A => .G
  | .swap_B => .G
  | .swap_C => .G
  | .swap_D => .G
  | .swap_E => .G
  | .swap_H => .G
  | .swap_L => .G
  | .swap_mHL => .G
  | .swap_A => .G
  | .srl_B => .G
  | .srl_C => .G
  | .srl_D => .G
  | .srl_E => .G
  | .srl_H => .G
  | .srl_L => .G
  | .srl_mHL => .G
  | .srl_A => .G
  | .bit_0_B => .G
  | .bit_0_C => .G
  | .bit_0_D => .G
  | .bit_0_E => .G
  | .bit_0_H => .G
  | .bit_0_L => .G
  | .bit_0_mHL => .G
  | .bit_0_A => .G
  | .bit_1_B => .G
  | .bit_1_C => .G
  | .bit_1_D => .G
  | .bit_1_E => .G
  | .bit_1_H => .G
  | .bit_1_L => .G
  | .bit_1_mHL => .G
  | .bit_1_A => .G
  | .bit_2_B => .G
  | .bit_2_C => .G
  | .bit_2_D => .G
  | .bit_2_E => .G
  | .bit_2_H => .G
  | .bit_2_L => .G
  | .bit_2_mHL => .G
  | .bit_2_A => .G
  | .bit_3_B => .G
  | .bit_3_C => .G
  | .bit_3_D => .G
  | .bit_3_E => .G
  | .bit_3_H => .G
  | .bit_3_L => .G
  | .bit_3_mHL => .G
  | .bit_3_A => .G
  | .bit_4_B => .G
  | .bit_4_C => .G
  | .bit_4_D => .G
  | .bit_4_E => .G
  | .bit_4_H => .G
  | .bit_4_L => .G
  | .bit_4_mHL => .G
  | .bit_4_A => .G
  | .bit_5_B => .G
  | .bit_5_C => .G
  | .bit_5_D => .G
  | .bit_5_E => .G
  | .bit_5_H => .G
  | .bit_5_L => .G
  | .bit_5_mHL => .G
  | .bit_5_A => .G
  | .bit_6_B => .G
  | .bit_6_C => .G
  | .bit_6_D => .G
  | .bit_6_E => .G
  | .bit_6_H => .G
  | .bit_6_L => .G
  | .bit_6_mHL => .G
  | .bit_6_A => .G
  | .bit_7_B => .G
  | .bit_7_C => .G
  | .bit_7_D => .G
  | .bit_7_E => .G
  | .bit_7_H => .G
  | .bit_7_L => .G
  | .bit_7_mHL => .G
  | .bit_7_A => .G
  | .res_0_B => .G
  | .res_0_C => .G
  | .res_0_D => .G
  | .res_0_E => .G
  | .res_0_H => .G
  | .res_0_L => .G
  | .res_0_mHL => .G
  | .res_0_A => .G
  | .res_1_B => .G
  | .res_1_C => .G
  | .res_1_D => .G
  | .res_1_E => .G
  | .res_1_H => .G
  | .res_1_L => .G
  | .res_1_mHL => .G
  | .res_1_A => .G
  | .res_2_B => .G
  | .res_2_C => .G
  | .res_2_D => .G
  | .res_2_E => .G
  | .res_2_H => .G
  | .res_2_L => .G
  | .res_2_mHL => .G
  | .res_2_A => .G
  | .res_3_B => .G
  | .res_3_C => .G
  | .res_3_D => .G
  | .res_3_E => .G
  | .res_3_H => .G
  | .res_3_L => .G
  | .res_3_mHL => .G
  | .res_3_A => .G
  | .res_4_B => .G
  | .res_4_C => .G
  | .res_4_D => .G
  | .res_4_E => .G
  | .res_4_H => .G
  | .res_4_L => .G
  | .res_4_mHL => .G
  | .res_4_A => .G
  | .res_5_B => .G
  | .res_5_C => .G
  | .res_5_D => .G
  | .res_5_E => .G
  | .res_5_H => .G
  | .res_5_L => .G
  | .res_5_mHL => .G
  | .res_5_A => .G
  | .res_6_B => .G
  | .res_6_C => .G
  | .res_6_D => .G
  | .res_6_E => .G
  | .res_6_H => .G
  | .res_6_L => .G
  | .res_6_mHL => .G
  | .res_6_A => .G
  | .res_7_B => .G
  | .res_7_C => .G
  | .res_7_D => .G
  | .res_7_E => .G
  | .res_7_H => .G
  | .res_7_L => .G
  | .res_7_mHL => .G
  | .res_7_A => .G
  | .set_0_B => .G
  | .set_0_C => .G
  | .set_0_D => .G
  | .set_0_E => .G
  | .set_0_H => .G
  | .set_0_L => .G
  | .set_0_mHL => .G
  | .set_0_A => .G
  | .set_1_B => .G
  | .set_1_C => .G
  | .set_1_D => .G
  | .set_1_E => .G
  | .set_1_H => .G
  | .set_1_L => .G
  | .set_1_mHL => .G
  | .set_1_A => .G
  | .set_2_B => .G
  | .set_2_C => .G
  | .set_2_D => .G
  | .set_2_E => .G
  | .set_2_H => .G
  | .set_2_L => .G
  | .set_2_mHL => .G
  | .set_2_A => .G
  | .set_3_B => .G
  | .set_3_C => .G
  | .set_3_D => .G
  | .set_3_E => .G
  | .set_3_H => .G
  | .set_3_L => .G
  | .set_3_mHL => .G
  | .set_3_A => .G
  | .set_4_B => .G
  | .set_4_C => .G
  | .set_4_D => .G
  | .set_4_E => .G
  | .set_4_H => .G
  | .set_4_L => .G
  | .set_4_mHL => .G
  | .set_4_A => .G
  | .set_5_B => .G
  | .set_5_C => .G
  | .set_5_D => .G
  | .set_5_E => .G
  | .set_5_H => .G
  | .set_5_L => .G
  | .set_5_mHL => .G
  | .set_5_A => .G
  | .set_6_B => .G
  | .set_6_C => .G
  | .set_6_D => .G
  | .set_6_E => .G
  | .set_6_H => .G
  | .set_6_L => .G
  | .set_6_mHL => .G
  | .set_6_A => .G
  | .set_7_B => .G
  | .set_7_C => .G
  | .set_7_D => .G
  | .set_7_E => .G
  | .set_7_H => .G
  | .set_7_L => .G
  | .set_7_mHL => .G
  | .set_7_A => .G

end Sys2Proof
end

