-- ==== Sys2Proof/WellFormed.lean ====
section
/-! DEFINITION. Which instructions a decoder can answer under a profile (00_scope.md R5,
30_encoding.md R103). -/

namespace Sys2Proof

/-- The 11 base opcodes with no instruction under every profile (R103); the twelfth, `0x10`, has
a constructor of its own. -/
def holes : List Byte :=
  [0xD3#8, 0xDB#8, 0xDD#8, 0xE3#8, 0xE4#8, 0xEB#8, 0xEC#8, 0xED#8, 0xF4#8, 0xFC#8, 0xFD#8]

/-- The 25 base opcodes of Tier G (R97, R100), unmapped under `source_named` (R103). -/
def tierGOpcodes : List Byte :=
  [0x02#8, 0x0A#8, 0x12#8, 0x1A#8, 0x22#8, 0x2A#8, 0x32#8, 0x3A#8,
   0xC7#8, 0xCF#8, 0xD7#8, 0xD9#8, 0xDF#8, 0xE0#8, 0xE2#8, 0xE7#8, 0xE8#8, 0xE9#8, 0xEA#8,
   0xEF#8, 0xF0#8, 0xF2#8, 0xF7#8, 0xFA#8, 0xFF#8]

/-- The opcode is one the profile leaves unmapped in the base table (R103), `0x10` aside. -/
def unmappedOpcode (p : Profile) (op : Byte) : Bool :=
  holes.contains op || (p == .sourceNamed && tierGOpcodes.contains op)

/-- The failing fetches are those the profile gives: an unmapped opcode byte, and, only where the
CB table is unmapped, a second byte after `0xCB` (R103). Every other constructor passes. -/
def Instr.failureOk (p : Profile) : Instr → Bool
  | .unmapped op => unmappedOpcode p op
  | .prefix_CB _ => p == .sourceNamed
  | _ => true

/-- A Tier G instruction exists only under `sm83_complete` (R5). -/
def Instr.tierOk (p : Profile) (i : Instr) : Bool :=
  i.tier != .G || p == .sm83Complete

/-- The instructions the profile has. There are no other checks: every value of every operand field
and of every immediate is legal (R104). -/
def Instr.wf (p : Profile) (i : Instr) : Bool :=
  i.tierOk p && i.failureOk p

end Sys2Proof
end

