-- ==== Sys2Proof/Decode.lean ====
section
/-! DEFINITION. The decoder, written from the fields of an opcode (30_encoding.md R91 to R103), and
the encoder, written from the byte values of the opcode map (R97 to R102). -/

namespace Sys2Proof

/-- The high byte of a 16-bit value (00_scope.md R7). -/
def hiByte (v : Word) : Byte := BitVec.ofNat 8 (v.toNat / 256)

/-- The low byte of a 16-bit value (R7). -/
def loByte (v : Word) : Byte := BitVec.ofNat 8 v.toNat

/-- `{h, l} = h * 256 + l` (R7). -/
def joinBytes (h l : Byte) : Word := BitVec.ofNat 16 (h.toNat * 256 + l.toNat)

/-- `op[7:6]`, the field `x` (R91). -/
def fieldX (op : Byte) : BitVec 2 := op.extractLsb' 6 2

/-- `op[5:3]`, the field `y` (R91). -/
def fieldY (op : Byte) : BitVec 3 := op.extractLsb' 3 3

/-- `op[2:0]`, the field `z` (R91). -/
def fieldZ (op : Byte) : BitVec 3 := op.extractLsb' 0 3

/-- The 3-bit value as a field. -/
def Oct.ofBits (v : BitVec 3) : Oct :=
  if v = 0#3 then .o0 else if v = 1#3 then .o1 else if v = 2#3 then .o2 else if v = 3#3 then .o3
  else if v = 4#3 then .o4 else if v = 5#3 then .o5 else if v = 6#3 then .o6 else .o7

/-- The 8-bit operand a field value names (R92). -/
def Operand8.ofOct : Oct → Operand8
  | .o0 => .reg .b | .o1 => .reg .c | .o2 => .reg .d | .o3 => .reg .e
  | .o4 => .reg .h | .o5 => .reg .l | .o6 => .mHL | .o7 => .reg .a

/-- The ALU operation a field value names (R95). -/
def AluOp.ofOct : Oct → AluOp
  | .o0 => .add | .o1 => .adc | .o2 => .sub | .o3 => .sbc
  | .o4 => .and | .o5 => .xor | .o6 => .or | .o7 => .cp

/-- The rotate or shift a field value names (R102). -/
def ShiftOp.ofOct : Oct → ShiftOp
  | .o0 => .rlc | .o1 => .rrc | .o2 => .rl | .o3 => .rr
  | .o4 => .sla | .o5 => .sra | .o6 => .swap | .o7 => .srl

/-! ## Forms: the constructor of each family by its operands -/

namespace Forms

/-- `LD` with destination and source operand fields (R98); `(HL),(HL)` is `HALT`. -/
def ld : Operand8 → Operand8 → Instr
  | .reg .b, .reg .b => .ld_B_B
  | .reg .b, .reg .c => .ld_B_C
  | .reg .b, .reg .d => .ld_B_D
  | .reg .b, .reg .e => .ld_B_E
  | .reg .b, .reg .h => .ld_B_H
  | .reg .b, .reg .l => .ld_B_L
  | .reg .b, .mHL => .ld_B_mHL
  | .reg .b, .reg .a => .ld_B_A
  | .reg .c, .reg .b => .ld_C_B
  | .reg .c, .reg .c => .ld_C_C
  | .reg .c, .reg .d => .ld_C_D
  | .reg .c, .reg .e => .ld_C_E
  | .reg .c, .reg .h => .ld_C_H
  | .reg .c, .reg .l => .ld_C_L
  | .reg .c, .mHL => .ld_C_mHL
  | .reg .c, .reg .a => .ld_C_A
  | .reg .d, .reg .b => .ld_D_B
  | .reg .d, .reg .c => .ld_D_C
  | .reg .d, .reg .d => .ld_D_D
  | .reg .d, .reg .e => .ld_D_E
  | .reg .d, .reg .h => .ld_D_H
  | .reg .d, .reg .l => .ld_D_L
  | .reg .d, .mHL => .ld_D_mHL
  | .reg .d, .reg .a => .ld_D_A
  | .reg .e, .reg .b => .ld_E_B
  | .reg .e, .reg .c => .ld_E_C
  | .reg .e, .reg .d => .ld_E_D
  | .reg .e, .reg .e => .ld_E_E
  | .reg .e, .reg .h => .ld_E_H
  | .reg .e, .reg .l => .ld_E_L
  | .reg .e, .mHL => .ld_E_mHL
  | .reg .e, .reg .a => .ld_E_A
  | .reg .h, .reg .b => .ld_H_B
  | .reg .h, .reg .c => .ld_H_C
  | .reg .h, .reg .d => .ld_H_D
  | .reg .h, .reg .e => .ld_H_E
  | .reg .h, .reg .h => .ld_H_H
  | .reg .h, .reg .l => .ld_H_L
  | .reg .h, .mHL => .ld_H_mHL
  | .reg .h, .reg .a => .ld_H_A
  | .reg .l, .reg .b => .ld_L_B
  | .reg .l, .reg .c => .ld_L_C
  | .reg .l, .reg .d => .ld_L_D
  | .reg .l, .reg .e => .ld_L_E
  | .reg .l, .reg .h => .ld_L_H
  | .reg .l, .reg .l => .ld_L_L
  | .reg .l, .mHL => .ld_L_mHL
  | .reg .l, .reg .a => .ld_L_A
  | .mHL, .reg .b => .ld_mHL_B
  | .mHL, .reg .c => .ld_mHL_C
  | .mHL, .reg .d => .ld_mHL_D
  | .mHL, .reg .e => .ld_mHL_E
  | .mHL, .reg .h => .ld_mHL_H
  | .mHL, .reg .l => .ld_mHL_L
  | .mHL, .mHL => .halt
  | .mHL, .reg .a => .ld_mHL_A
  | .reg .a, .reg .b => .ld_A_B
  | .reg .a, .reg .c => .ld_A_C
  | .reg .a, .reg .d => .ld_A_D
  | .reg .a, .reg .e => .ld_A_E
  | .reg .a, .reg .h => .ld_A_H
  | .reg .a, .reg .l => .ld_A_L
  | .reg .a, .mHL => .ld_A_mHL
  | .reg .a, .reg .a => .ld_A_A

/-- The ALU operation on `A` and an operand field (R99). -/
def alu : AluOp → Operand8 → Instr
  | .add, .reg .b => .add_A_B
  | .add, .reg .c => .add_A_C
  | .add, .reg .d => .add_A_D
  | .add, .reg .e => .add_A_E
  | .add, .reg .h => .add_A_H
  | .add, .reg .l => .add_A_L
  | .add, .mHL => .add_A_mHL
  | .add, .reg .a => .add_A_A
  | .adc, .reg .b => .adc_A_B
  | .adc, .reg .c => .adc_A_C
  | .adc, .reg .d => .adc_A_D
  | .adc, .reg .e => .adc_A_E
  | .adc, .reg .h => .adc_A_H
  | .adc, .reg .l => .adc_A_L
  | .adc, .mHL => .adc_A_mHL
  | .adc, .reg .a => .adc_A_A
  | .sub, .reg .b => .sub_B
  | .sub, .reg .c => .sub_C
  | .sub, .reg .d => .sub_D
  | .sub, .reg .e => .sub_E
  | .sub, .reg .h => .sub_H
  | .sub, .reg .l => .sub_L
  | .sub, .mHL => .sub_mHL
  | .sub, .reg .a => .sub_A
  | .sbc, .reg .b => .sbc_A_B
  | .sbc, .reg .c => .sbc_A_C
  | .sbc, .reg .d => .sbc_A_D
  | .sbc, .reg .e => .sbc_A_E
  | .sbc, .reg .h => .sbc_A_H
  | .sbc, .reg .l => .sbc_A_L
  | .sbc, .mHL => .sbc_A_mHL
  | .sbc, .reg .a => .sbc_A_A
  | .and, .reg .b => .and_B
  | .and, .reg .c => .and_C
  | .and, .reg .d => .and_D
  | .and, .reg .e => .and_E
  | .and, .reg .h => .and_H
  | .and, .reg .l => .and_L
  | .and, .mHL => .and_mHL
  | .and, .reg .a => .and_A
  | .xor, .reg .b => .xor_B
  | .xor, .reg .c => .xor_C
  | .xor, .reg .d => .xor_D
  | .xor, .reg .e => .xor_E
  | .xor, .reg .h => .xor_H
  | .xor, .reg .l => .xor_L
  | .xor, .mHL => .xor_mHL
  | .xor, .reg .a => .xor_A
  | .or, .reg .b => .or_B
  | .or, .reg .c => .or_C
  | .or, .reg .d => .or_D
  | .or, .reg .e => .or_E
  | .or, .reg .h => .or_H
  | .or, .reg .l => .or_L
  | .or, .mHL => .or_mHL
  | .or, .reg .a => .or_A
  | .cp, .reg .b => .cp_B
  | .cp, .reg .c => .cp_C
  | .cp, .reg .d => .cp_D
  | .cp, .reg .e => .cp_E
  | .cp, .reg .h => .cp_H
  | .cp, .reg .l => .cp_L
  | .cp, .mHL => .cp_mHL
  | .cp, .reg .a => .cp_A

/-- The ALU operation on `A` and an immediate (R100, `0xC6 + 8y`). -/
def aluImm : AluOp → Byte → Instr
  | .add, d8 => .add_A_d8 d8
  | .adc, d8 => .adc_A_d8 d8
  | .sub, d8 => .sub_d8 d8
  | .sbc, d8 => .sbc_A_d8 d8
  | .and, d8 => .and_d8 d8
  | .xor, d8 => .xor_d8 d8
  | .or, d8 => .or_d8 d8
  | .cp, d8 => .cp_d8 d8

/-- `INC` of an operand field (R97, `0x04 + 8y`). -/
def inc : Operand8 → Instr
  | .reg .b => .inc_B
  | .reg .c => .inc_C
  | .reg .d => .inc_D
  | .reg .e => .inc_E
  | .reg .h => .inc_H
  | .reg .l => .inc_L
  | .mHL => .inc_mHL
  | .reg .a => .inc_A

/-- `DEC` of an operand field (R97, `0x05 + 8y`). -/
def dec : Operand8 → Instr
  | .reg .b => .dec_B
  | .reg .c => .dec_C
  | .reg .d => .dec_D
  | .reg .e => .dec_E
  | .reg .h => .dec_H
  | .reg .l => .dec_L
  | .mHL => .dec_mHL
  | .reg .a => .dec_A

/-- `LD` of an immediate to an operand field (R97, `0x06 + 8y`). -/
def ldImm : Operand8 → Byte → Instr
  | .reg .b, d8 => .ld_B_d8 d8
  | .reg .c, d8 => .ld_C_d8 d8
  | .reg .d, d8 => .ld_D_d8 d8
  | .reg .e, d8 => .ld_E_d8 d8
  | .reg .h, d8 => .ld_H_d8 d8
  | .reg .l, d8 => .ld_L_d8 d8
  | .mHL, d8 => .ld_mHL_d8 d8
  | .reg .a, d8 => .ld_A_d8 d8

/-- `LD rr,d16` (R97, `0x01 + 16p`). -/
def ldPair : Pair16 → Word → Instr
  | .bc, d16 => .ld_BC_d16 d16
  | .de, d16 => .ld_DE_d16 d16
  | .hl, d16 => .ld_HL_d16 d16
  | .sp, d16 => .ld_SP_d16 d16

/-- `INC rr` (R97, `0x03 + 16p`). -/
def incPair : Pair16 → Instr
  | .bc => .inc_BC
  | .de => .inc_DE
  | .hl => .inc_HL
  | .sp => .inc_SP

/-- `DEC rr` (R97, `0x0B + 16p`). -/
def decPair : Pair16 → Instr
  | .bc => .dec_BC
  | .de => .dec_DE
  | .hl => .dec_HL
  | .sp => .dec_SP

/-- `ADD HL,rr` (R97, `0x09 + 16p`). -/
def addHL : Pair16 → Instr
  | .bc => .add_HL_BC
  | .de => .add_HL_DE
  | .hl => .add_HL_HL
  | .sp => .add_HL_SP

/-- `POP rr` (R100, `0xC1 + 16p`). -/
def pop : StackPair → Instr
  | .bc => .pop_BC
  | .de => .pop_DE
  | .hl => .pop_HL
  | .af => .pop_AF

/-- `PUSH rr` (R100, `0xC5 + 16p`). -/
def push : StackPair → Instr
  | .bc => .push_BC
  | .de => .push_DE
  | .hl => .push_HL
  | .af => .push_AF

/-- `JR cc,e8` (R97, `0x20 + 8cc`). -/
def jrCond : Cond → Byte → Instr
  | .nz, e8 => .jr_NZ_e8 e8
  | .z, e8 => .jr_Z_e8 e8
  | .nc, e8 => .jr_NC_e8 e8
  | .c, e8 => .jr_C_e8 e8

/-- `RET cc` (R100, `0xC0 + 8cc`). -/
def retCond : Cond → Instr
  | .nz => .ret_NZ
  | .z => .ret_Z
  | .nc => .ret_NC
  | .c => .ret_C

/-- `JP cc,a16` (R100, `0xC2 + 8cc`). -/
def jpCond : Cond → Word → Instr
  | .nz, a16 => .jp_NZ_a16 a16
  | .z, a16 => .jp_Z_a16 a16
  | .nc, a16 => .jp_NC_a16 a16
  | .c, a16 => .jp_C_a16 a16

/-- `CALL cc,a16` (R100, `0xC4 + 8cc`). -/
def callCond : Cond → Word → Instr
  | .nz, a16 => .call_NZ_a16 a16
  | .z, a16 => .call_Z_a16 a16
  | .nc, a16 => .call_NC_a16 a16
  | .c, a16 => .call_C_a16 a16

/-- `RST 8y` (R100, `0xC7 + 8y`). -/
def rst : Oct → Instr
  | .o0 => .rst_00
  | .o1 => .rst_08
  | .o2 => .rst_10
  | .o3 => .rst_18
  | .o4 => .rst_20
  | .o5 => .rst_28
  | .o6 => .rst_30
  | .o7 => .rst_38

/-- The rotates and shifts of the CB table (R102, x = 0). -/
def shift : ShiftOp → Operand8 → Instr
  | .rlc, .reg .b => .rlc_B
  | .rlc, .reg .c => .rlc_C
  | .rlc, .reg .d => .rlc_D
  | .rlc, .reg .e => .rlc_E
  | .rlc, .reg .h => .rlc_H
  | .rlc, .reg .l => .rlc_L
  | .rlc, .mHL => .rlc_mHL
  | .rlc, .reg .a => .rlc_A
  | .rrc, .reg .b => .rrc_B
  | .rrc, .reg .c => .rrc_C
  | .rrc, .reg .d => .rrc_D
  | .rrc, .reg .e => .rrc_E
  | .rrc, .reg .h => .rrc_H
  | .rrc, .reg .l => .rrc_L
  | .rrc, .mHL => .rrc_mHL
  | .rrc, .reg .a => .rrc_A
  | .rl, .reg .b => .rl_B
  | .rl, .reg .c => .rl_C
  | .rl, .reg .d => .rl_D
  | .rl, .reg .e => .rl_E
  | .rl, .reg .h => .rl_H
  | .rl, .reg .l => .rl_L
  | .rl, .mHL => .rl_mHL
  | .rl, .reg .a => .rl_A
  | .rr, .reg .b => .rr_B
  | .rr, .reg .c => .rr_C
  | .rr, .reg .d => .rr_D
  | .rr, .reg .e => .rr_E
  | .rr, .reg .h => .rr_H
  | .rr, .reg .l => .rr_L
  | .rr, .mHL => .rr_mHL
  | .rr, .reg .a => .rr_A
  | .sla, .reg .b => .sla_B
  | .sla, .reg .c => .sla_C
  | .sla, .reg .d => .sla_D
  | .sla, .reg .e => .sla_E
  | .sla, .reg .h => .sla_H
  | .sla, .reg .l => .sla_L
  | .sla, .mHL => .sla_mHL
  | .sla, .reg .a => .sla_A
  | .sra, .reg .b => .sra_B
  | .sra, .reg .c => .sra_C
  | .sra, .reg .d => .sra_D
  | .sra, .reg .e => .sra_E
  | .sra, .reg .h => .sra_H
  | .sra, .reg .l => .sra_L
  | .sra, .mHL => .sra_mHL
  | .sra, .reg .a => .sra_A
  | .swap, .reg .b => .swap_B
  | .swap, .reg .c => .swap_C
  | .swap, .reg .d => .swap_D
  | .swap, .reg .e => .swap_E
  | .swap, .reg .h => .swap_H
  | .swap, .reg .l => .swap_L
  | .swap, .mHL => .swap_mHL
  | .swap, .reg .a => .swap_A
  | .srl, .reg .b => .srl_B
  | .srl, .reg .c => .srl_C
  | .srl, .reg .d => .srl_D
  | .srl, .reg .e => .srl_E
  | .srl, .reg .h => .srl_H
  | .srl, .reg .l => .srl_L
  | .srl, .mHL => .srl_mHL
  | .srl, .reg .a => .srl_A

/-- `BIT b` of an operand field (R102, x = 1). -/
def bit : Oct → Operand8 → Instr
  | .o0, .reg .b => .bit_0_B
  | .o0, .reg .c => .bit_0_C
  | .o0, .reg .d => .bit_0_D
  | .o0, .reg .e => .bit_0_E
  | .o0, .reg .h => .bit_0_H
  | .o0, .reg .l => .bit_0_L
  | .o0, .mHL => .bit_0_mHL
  | .o0, .reg .a => .bit_0_A
  | .o1, .reg .b => .bit_1_B
  | .o1, .reg .c => .bit_1_C
  | .o1, .reg .d => .bit_1_D
  | .o1, .reg .e => .bit_1_E
  | .o1, .reg .h => .bit_1_H
  | .o1, .reg .l => .bit_1_L
  | .o1, .mHL => .bit_1_mHL
  | .o1, .reg .a => .bit_1_A
  | .o2, .reg .b => .bit_2_B
  | .o2, .reg .c => .bit_2_C
  | .o2, .reg .d => .bit_2_D
  | .o2, .reg .e => .bit_2_E
  | .o2, .reg .h => .bit_2_H
  | .o2, .reg .l => .bit_2_L
  | .o2, .mHL => .bit_2_mHL
  | .o2, .reg .a => .bit_2_A
  | .o3, .reg .b => .bit_3_B
  | .o3, .reg .c => .bit_3_C
  | .o3, .reg .d => .bit_3_D
  | .o3, .reg .e => .bit_3_E
  | .o3, .reg .h => .bit_3_H
  | .o3, .reg .l => .bit_3_L
  | .o3, .mHL => .bit_3_mHL
  | .o3, .reg .a => .bit_3_A
  | .o4, .reg .b => .bit_4_B
  | .o4, .reg .c => .bit_4_C
  | .o4, .reg .d => .bit_4_D
  | .o4, .reg .e => .bit_4_E
  | .o4, .reg .h => .bit_4_H
  | .o4, .reg .l => .bit_4_L
  | .o4, .mHL => .bit_4_mHL
  | .o4, .reg .a => .bit_4_A
  | .o5, .reg .b => .bit_5_B
  | .o5, .reg .c => .bit_5_C
  | .o5, .reg .d => .bit_5_D
  | .o5, .reg .e => .bit_5_E
  | .o5, .reg .h => .bit_5_H
  | .o5, .reg .l => .bit_5_L
  | .o5, .mHL => .bit_5_mHL
  | .o5, .reg .a => .bit_5_A
  | .o6, .reg .b => .bit_6_B
  | .o6, .reg .c => .bit_6_C
  | .o6, .reg .d => .bit_6_D
  | .o6, .reg .e => .bit_6_E
  | .o6, .reg .h => .bit_6_H
  | .o6, .reg .l => .bit_6_L
  | .o6, .mHL => .bit_6_mHL
  | .o6, .reg .a => .bit_6_A
  | .o7, .reg .b => .bit_7_B
  | .o7, .reg .c => .bit_7_C
  | .o7, .reg .d => .bit_7_D
  | .o7, .reg .e => .bit_7_E
  | .o7, .reg .h => .bit_7_H
  | .o7, .reg .l => .bit_7_L
  | .o7, .mHL => .bit_7_mHL
  | .o7, .reg .a => .bit_7_A

/-- `RES b` of an operand field (R102, x = 2). -/
def res : Oct → Operand8 → Instr
  | .o0, .reg .b => .res_0_B
  | .o0, .reg .c => .res_0_C
  | .o0, .reg .d => .res_0_D
  | .o0, .reg .e => .res_0_E
  | .o0, .reg .h => .res_0_H
  | .o0, .reg .l => .res_0_L
  | .o0, .mHL => .res_0_mHL
  | .o0, .reg .a => .res_0_A
  | .o1, .reg .b => .res_1_B
  | .o1, .reg .c => .res_1_C
  | .o1, .reg .d => .res_1_D
  | .o1, .reg .e => .res_1_E
  | .o1, .reg .h => .res_1_H
  | .o1, .reg .l => .res_1_L
  | .o1, .mHL => .res_1_mHL
  | .o1, .reg .a => .res_1_A
  | .o2, .reg .b => .res_2_B
  | .o2, .reg .c => .res_2_C
  | .o2, .reg .d => .res_2_D
  | .o2, .reg .e => .res_2_E
  | .o2, .reg .h => .res_2_H
  | .o2, .reg .l => .res_2_L
  | .o2, .mHL => .res_2_mHL
  | .o2, .reg .a => .res_2_A
  | .o3, .reg .b => .res_3_B
  | .o3, .reg .c => .res_3_C
  | .o3, .reg .d => .res_3_D
  | .o3, .reg .e => .res_3_E
  | .o3, .reg .h => .res_3_H
  | .o3, .reg .l => .res_3_L
  | .o3, .mHL => .res_3_mHL
  | .o3, .reg .a => .res_3_A
  | .o4, .reg .b => .res_4_B
  | .o4, .reg .c => .res_4_C
  | .o4, .reg .d => .res_4_D
  | .o4, .reg .e => .res_4_E
  | .o4, .reg .h => .res_4_H
  | .o4, .reg .l => .res_4_L
  | .o4, .mHL => .res_4_mHL
  | .o4, .reg .a => .res_4_A
  | .o5, .reg .b => .res_5_B
  | .o5, .reg .c => .res_5_C
  | .o5, .reg .d => .res_5_D
  | .o5, .reg .e => .res_5_E
  | .o5, .reg .h => .res_5_H
  | .o5, .reg .l => .res_5_L
  | .o5, .mHL => .res_5_mHL
  | .o5, .reg .a => .res_5_A
  | .o6, .reg .b => .res_6_B
  | .o6, .reg .c => .res_6_C
  | .o6, .reg .d => .res_6_D
  | .o6, .reg .e => .res_6_E
  | .o6, .reg .h => .res_6_H
  | .o6, .reg .l => .res_6_L
  | .o6, .mHL => .res_6_mHL
  | .o6, .reg .a => .res_6_A
  | .o7, .reg .b => .res_7_B
  | .o7, .reg .c => .res_7_C
  | .o7, .reg .d => .res_7_D
  | .o7, .reg .e => .res_7_E
  | .o7, .reg .h => .res_7_H
  | .o7, .reg .l => .res_7_L
  | .o7, .mHL => .res_7_mHL
  | .o7, .reg .a => .res_7_A

/-- `SET b` of an operand field (R102, x = 3). -/
def set : Oct → Operand8 → Instr
  | .o0, .reg .b => .set_0_B
  | .o0, .reg .c => .set_0_C
  | .o0, .reg .d => .set_0_D
  | .o0, .reg .e => .set_0_E
  | .o0, .reg .h => .set_0_H
  | .o0, .reg .l => .set_0_L
  | .o0, .mHL => .set_0_mHL
  | .o0, .reg .a => .set_0_A
  | .o1, .reg .b => .set_1_B
  | .o1, .reg .c => .set_1_C
  | .o1, .reg .d => .set_1_D
  | .o1, .reg .e => .set_1_E
  | .o1, .reg .h => .set_1_H
  | .o1, .reg .l => .set_1_L
  | .o1, .mHL => .set_1_mHL
  | .o1, .reg .a => .set_1_A
  | .o2, .reg .b => .set_2_B
  | .o2, .reg .c => .set_2_C
  | .o2, .reg .d => .set_2_D
  | .o2, .reg .e => .set_2_E
  | .o2, .reg .h => .set_2_H
  | .o2, .reg .l => .set_2_L
  | .o2, .mHL => .set_2_mHL
  | .o2, .reg .a => .set_2_A
  | .o3, .reg .b => .set_3_B
  | .o3, .reg .c => .set_3_C
  | .o3, .reg .d => .set_3_D
  | .o3, .reg .e => .set_3_E
  | .o3, .reg .h => .set_3_H
  | .o3, .reg .l => .set_3_L
  | .o3, .mHL => .set_3_mHL
  | .o3, .reg .a => .set_3_A
  | .o4, .reg .b => .set_4_B
  | .o4, .reg .c => .set_4_C
  | .o4, .reg .d => .set_4_D
  | .o4, .reg .e => .set_4_E
  | .o4, .reg .h => .set_4_H
  | .o4, .reg .l => .set_4_L
  | .o4, .mHL => .set_4_mHL
  | .o4, .reg .a => .set_4_A
  | .o5, .reg .b => .set_5_B
  | .o5, .reg .c => .set_5_C
  | .o5, .reg .d => .set_5_D
  | .o5, .reg .e => .set_5_E
  | .o5, .reg .h => .set_5_H
  | .o5, .reg .l => .set_5_L
  | .o5, .mHL => .set_5_mHL
  | .o5, .reg .a => .set_5_A
  | .o6, .reg .b => .set_6_B
  | .o6, .reg .c => .set_6_C
  | .o6, .reg .d => .set_6_D
  | .o6, .reg .e => .set_6_E
  | .o6, .reg .h => .set_6_H
  | .o6, .reg .l => .set_6_L
  | .o6, .mHL => .set_6_mHL
  | .o6, .reg .a => .set_6_A
  | .o7, .reg .b => .set_7_B
  | .o7, .reg .c => .set_7_C
  | .o7, .reg .d => .set_7_D
  | .o7, .reg .e => .set_7_E
  | .o7, .reg .h => .set_7_H
  | .o7, .reg .l => .set_7_L
  | .o7, .mHL => .set_7_mHL
  | .o7, .reg .a => .set_7_A

end Forms

/-! ## The decoder -/

/-- The base table with `x = 0` (R97), by `y` and `z`; `b1`, `b2` are the bytes after the opcode (R96). -/
def decodeX0 (b1 b2 : Byte) : Oct → Oct → Instr
  | .o0, .o0 => .nop  -- 0x00
  | .o0, .o1 => .ld_BC_d16 (joinBytes b2 b1)  -- 0x01
  | .o0, .o2 => .ld_mBC_A  -- 0x02
  | .o0, .o3 => .inc_BC  -- 0x03
  | .o0, .o4 => .inc_B  -- 0x04
  | .o0, .o5 => .dec_B  -- 0x05
  | .o0, .o6 => .ld_B_d8 b1  -- 0x06
  | .o0, .o7 => .rlca  -- 0x07
  | .o1, .o0 => .ld_ma16_SP (joinBytes b2 b1)  -- 0x08
  | .o1, .o1 => .add_HL_BC  -- 0x09
  | .o1, .o2 => .ld_A_mBC  -- 0x0A
  | .o1, .o3 => .dec_BC  -- 0x0B
  | .o1, .o4 => .inc_C  -- 0x0C
  | .o1, .o5 => .dec_C  -- 0x0D
  | .o1, .o6 => .ld_C_d8 b1  -- 0x0E
  | .o1, .o7 => .rrca  -- 0x0F
  | .o2, .o0 => .unmapped_STOP  -- 0x10
  | .o2, .o1 => .ld_DE_d16 (joinBytes b2 b1)  -- 0x11
  | .o2, .o2 => .ld_mDE_A  -- 0x12
  | .o2, .o3 => .inc_DE  -- 0x13
  | .o2, .o4 => .inc_D  -- 0x14
  | .o2, .o5 => .dec_D  -- 0x15
  | .o2, .o6 => .ld_D_d8 b1  -- 0x16
  | .o2, .o7 => .rla  -- 0x17
  | .o3, .o0 => .jr_e8 b1  -- 0x18
  | .o3, .o1 => .add_HL_DE  -- 0x19
  | .o3, .o2 => .ld_A_mDE  -- 0x1A
  | .o3, .o3 => .dec_DE  -- 0x1B
  | .o3, .o4 => .inc_E  -- 0x1C
  | .o3, .o5 => .dec_E  -- 0x1D
  | .o3, .o6 => .ld_E_d8 b1  -- 0x1E
  | .o3, .o7 => .rra  -- 0x1F
  | .o4, .o0 => .jr_NZ_e8 b1  -- 0x20
  | .o4, .o1 => .ld_HL_d16 (joinBytes b2 b1)  -- 0x21
  | .o4, .o2 => .ld_mHLinc_A  -- 0x22
  | .o4, .o3 => .inc_HL  -- 0x23
  | .o4, .o4 => .inc_H  -- 0x24
  | .o4, .o5 => .dec_H  -- 0x25
  | .o4, .o6 => .ld_H_d8 b1  -- 0x26
  | .o4, .o7 => .daa  -- 0x27
  | .o5, .o0 => .jr_Z_e8 b1  -- 0x28
  | .o5, .o1 => .add_HL_HL  -- 0x29
  | .o5, .o2 => .ld_A_mHLinc  -- 0x2A
  | .o5, .o3 => .dec_HL  -- 0x2B
  | .o5, .o4 => .inc_L  -- 0x2C
  | .o5, .o5 => .dec_L  -- 0x2D
  | .o5, .o6 => .ld_L_d8 b1  -- 0x2E
  | .o5, .o7 => .cpl  -- 0x2F
  | .o6, .o0 => .jr_NC_e8 b1  -- 0x30
  | .o6, .o1 => .ld_SP_d16 (joinBytes b2 b1)  -- 0x31
  | .o6, .o2 => .ld_mHLdec_A  -- 0x32
  | .o6, .o3 => .inc_SP  -- 0x33
  | .o6, .o4 => .inc_mHL  -- 0x34
  | .o6, .o5 => .dec_mHL  -- 0x35
  | .o6, .o6 => .ld_mHL_d8 b1  -- 0x36
  | .o6, .o7 => .scf  -- 0x37
  | .o7, .o0 => .jr_C_e8 b1  -- 0x38
  | .o7, .o1 => .add_HL_SP  -- 0x39
  | .o7, .o2 => .ld_A_mHLdec  -- 0x3A
  | .o7, .o3 => .dec_SP  -- 0x3B
  | .o7, .o4 => .inc_A  -- 0x3C
  | .o7, .o5 => .dec_A  -- 0x3D
  | .o7, .o6 => .ld_A_d8 b1  -- 0x3E
  | .o7, .o7 => .ccf  -- 0x3F

/-- The base table with `x = 3` (R100), by `y` and `z`; `b1`, `b2` are the bytes after the opcode (R96). -/
def decodeX3 (b1 b2 : Byte) : Oct → Oct → Instr
  | .o0, .o0 => .ret_NZ  -- 0xC0
  | .o0, .o1 => .pop_BC  -- 0xC1
  | .o0, .o2 => .jp_NZ_a16 (joinBytes b2 b1)  -- 0xC2
  | .o0, .o3 => .jp_a16 (joinBytes b2 b1)  -- 0xC3
  | .o0, .o4 => .call_NZ_a16 (joinBytes b2 b1)  -- 0xC4
  | .o0, .o5 => .push_BC  -- 0xC5
  | .o0, .o6 => .add_A_d8 b1  -- 0xC6
  | .o0, .o7 => .rst_00  -- 0xC7
  | .o1, .o0 => .ret_Z  -- 0xC8
  | .o1, .o1 => .ret  -- 0xC9
  | .o1, .o2 => .jp_Z_a16 (joinBytes b2 b1)  -- 0xCA
  | .o1, .o3 => .prefix_CB b1  -- 0xCB
  | .o1, .o4 => .call_Z_a16 (joinBytes b2 b1)  -- 0xCC
  | .o1, .o5 => .call_a16 (joinBytes b2 b1)  -- 0xCD
  | .o1, .o6 => .adc_A_d8 b1  -- 0xCE
  | .o1, .o7 => .rst_08  -- 0xCF
  | .o2, .o0 => .ret_NC  -- 0xD0
  | .o2, .o1 => .pop_DE  -- 0xD1
  | .o2, .o2 => .jp_NC_a16 (joinBytes b2 b1)  -- 0xD2
  | .o2, .o3 => .unmapped 0xD3#8  -- 0xD3
  | .o2, .o4 => .call_NC_a16 (joinBytes b2 b1)  -- 0xD4
  | .o2, .o5 => .push_DE  -- 0xD5
  | .o2, .o6 => .sub_d8 b1  -- 0xD6
  | .o2, .o7 => .rst_10  -- 0xD7
  | .o3, .o0 => .ret_C  -- 0xD8
  | .o3, .o1 => .reti  -- 0xD9
  | .o3, .o2 => .jp_C_a16 (joinBytes b2 b1)  -- 0xDA
  | .o3, .o3 => .unmapped 0xDB#8  -- 0xDB
  | .o3, .o4 => .call_C_a16 (joinBytes b2 b1)  -- 0xDC
  | .o3, .o5 => .unmapped 0xDD#8  -- 0xDD
  | .o3, .o6 => .sbc_A_d8 b1  -- 0xDE
  | .o3, .o7 => .rst_18  -- 0xDF
  | .o4, .o0 => .ldh_ma8_A b1  -- 0xE0
  | .o4, .o1 => .pop_HL  -- 0xE1
  | .o4, .o2 => .ld_mC_A  -- 0xE2
  | .o4, .o3 => .unmapped 0xE3#8  -- 0xE3
  | .o4, .o4 => .unmapped 0xE4#8  -- 0xE4
  | .o4, .o5 => .push_HL  -- 0xE5
  | .o4, .o6 => .and_d8 b1  -- 0xE6
  | .o4, .o7 => .rst_20  -- 0xE7
  | .o5, .o0 => .add_SP_e8 b1  -- 0xE8
  | .o5, .o1 => .jp_HL  -- 0xE9
  | .o5, .o2 => .ld_ma16_A (joinBytes b2 b1)  -- 0xEA
  | .o5, .o3 => .unmapped 0xEB#8  -- 0xEB
  | .o5, .o4 => .unmapped 0xEC#8  -- 0xEC
  | .o5, .o5 => .unmapped 0xED#8  -- 0xED
  | .o5, .o6 => .xor_d8 b1  -- 0xEE
  | .o5, .o7 => .rst_28  -- 0xEF
  | .o6, .o0 => .ldh_A_ma8 b1  -- 0xF0
  | .o6, .o1 => .pop_AF  -- 0xF1
  | .o6, .o2 => .ld_A_mC  -- 0xF2
  | .o6, .o3 => .di  -- 0xF3
  | .o6, .o4 => .unmapped 0xF4#8  -- 0xF4
  | .o6, .o5 => .push_AF  -- 0xF5
  | .o6, .o6 => .or_d8 b1  -- 0xF6
  | .o6, .o7 => .rst_30  -- 0xF7
  | .o7, .o0 => .ld_HL_SPe8 b1  -- 0xF8
  | .o7, .o1 => .ld_SP_HL  -- 0xF9
  | .o7, .o2 => .ld_A_ma16 (joinBytes b2 b1)  -- 0xFA
  | .o7, .o3 => .ei  -- 0xFB
  | .o7, .o4 => .unmapped 0xFC#8  -- 0xFC
  | .o7, .o5 => .unmapped 0xFD#8  -- 0xFD
  | .o7, .o6 => .cp_d8 b1  -- 0xFE
  | .o7, .o7 => .rst_38  -- 0xFF

/-- The base table (R97 to R100). The arm of `0xCB` (R101) answers the prefix constructor;
`decodeInstr` gives the CB table its bytes first. -/
def decodeBase (op b1 b2 : Byte) : Instr :=
  let y := Oct.ofBits (fieldY op)
  let z := Oct.ofBits (fieldZ op)
  if fieldX op = 0#2 then decodeX0 b1 b2 y z
  else if fieldX op = 1#2 then Forms.ld (Operand8.ofOct y) (Operand8.ofOct z)
  else if fieldX op = 2#2 then Forms.alu (AluOp.ofOct y) (Operand8.ofOct z)
  else decodeX3 b1 b2 y z

/-- The CB table (R102), by the second byte. -/
def decodeCb (cb : Byte) : Instr :=
  let y := Oct.ofBits (fieldY cb)
  let r := Operand8.ofOct (Oct.ofBits (fieldZ cb))
  if fieldX cb = 0#2 then Forms.shift (ShiftOp.ofOct y) r
  else if fieldX cb = 1#2 then Forms.bit y r
  else if fieldX cb = 2#2 then Forms.res y r
  else Forms.set y r

/-- The instruction whose first byte is `op` and whose next two bytes are `b1` and `b2` (R101, R103,
R105): a function of the bytes and the profile alone. An unmapped opcode answers `unmapped`,
`unmapped_STOP` or `prefix_CB`, the constructors of the decode failure. -/
def decodeInstr (p : Profile) (op b1 b2 : Byte) : Instr :=
  if op = 0xCB#8 then
    match p with
    | .sm83Complete => decodeCb b1
    | .sourceNamed => .prefix_CB b1
  else if p = .sourceNamed ∧ tierGOpcodes.contains op = true then .unmapped op
  else decodeBase op b1 b2

/-! ## The encoder -/

/-- The bytes of each instruction in fetch order (R91, R96), by the byte values of R97 to R102. -/
def encode : Instr → List Byte
  | .ld_BC_d16 d16 => [0x01#8, loByte d16, hiByte d16]
  | .ld_B_d8 d8 => [0x06#8, d8]
  | .ld_ma16_SP a16 => [0x08#8, loByte a16, hiByte a16]
  | .ld_C_d8 d8 => [0x0E#8, d8]
  | .ld_DE_d16 d16 => [0x11#8, loByte d16, hiByte d16]
  | .ld_D_d8 d8 => [0x16#8, d8]
  | .jr_e8 e8 => [0x18#8, e8]
  | .ld_E_d8 d8 => [0x1E#8, d8]
  | .jr_NZ_e8 e8 => [0x20#8, e8]
  | .ld_HL_d16 d16 => [0x21#8, loByte d16, hiByte d16]
  | .ld_H_d8 d8 => [0x26#8, d8]
  | .jr_Z_e8 e8 => [0x28#8, e8]
  | .ld_L_d8 d8 => [0x2E#8, d8]
  | .jr_NC_e8 e8 => [0x30#8, e8]
  | .ld_SP_d16 d16 => [0x31#8, loByte d16, hiByte d16]
  | .ld_mHL_d8 d8 => [0x36#8, d8]
  | .jr_C_e8 e8 => [0x38#8, e8]
  | .ld_A_d8 d8 => [0x3E#8, d8]
  | .jp_NZ_a16 a16 => [0xC2#8, loByte a16, hiByte a16]
  | .jp_a16 a16 => [0xC3#8, loByte a16, hiByte a16]
  | .call_NZ_a16 a16 => [0xC4#8, loByte a16, hiByte a16]
  | .add_A_d8 d8 => [0xC6#8, d8]
  | .jp_Z_a16 a16 => [0xCA#8, loByte a16, hiByte a16]
  | .prefix_CB cb => [0xCB#8, cb]
  | .call_Z_a16 a16 => [0xCC#8, loByte a16, hiByte a16]
  | .call_a16 a16 => [0xCD#8, loByte a16, hiByte a16]
  | .adc_A_d8 d8 => [0xCE#8, d8]
  | .jp_NC_a16 a16 => [0xD2#8, loByte a16, hiByte a16]
  | .unmapped op => [op]
  | .call_NC_a16 a16 => [0xD4#8, loByte a16, hiByte a16]
  | .sub_d8 d8 => [0xD6#8, d8]
  | .jp_C_a16 a16 => [0xDA#8, loByte a16, hiByte a16]
  | .call_C_a16 a16 => [0xDC#8, loByte a16, hiByte a16]
  | .sbc_A_d8 d8 => [0xDE#8, d8]
  | .ldh_ma8_A a8 => [0xE0#8, a8]
  | .and_d8 d8 => [0xE6#8, d8]
  | .add_SP_e8 e8 => [0xE8#8, e8]
  | .ld_ma16_A a16 => [0xEA#8, loByte a16, hiByte a16]
  | .xor_d8 d8 => [0xEE#8, d8]
  | .ldh_A_ma8 a8 => [0xF0#8, a8]
  | .or_d8 d8 => [0xF6#8, d8]
  | .ld_HL_SPe8 e8 => [0xF8#8, e8]
  | .ld_A_ma16 a16 => [0xFA#8, loByte a16, hiByte a16]
  | .cp_d8 d8 => [0xFE#8, d8]
  | .nop => [0x00#8]
  | .ld_mBC_A => [0x02#8]
  | .inc_BC => [0x03#8]
  | .inc_B => [0x04#8]
  | .dec_B => [0x05#8]
  | .rlca => [0x07#8]
  | .add_HL_BC => [0x09#8]
  | .ld_A_mBC => [0x0A#8]
  | .dec_BC => [0x0B#8]
  | .inc_C => [0x0C#8]
  | .dec_C => [0x0D#8]
  | .rrca => [0x0F#8]
  | .unmapped_STOP => [0x10#8]
  | .ld_mDE_A => [0x12#8]
  | .inc_DE => [0x13#8]
  | .inc_D => [0x14#8]
  | .dec_D => [0x15#8]
  | .rla => [0x17#8]
  | .add_HL_DE => [0x19#8]
  | .ld_A_mDE => [0x1A#8]
  | .dec_DE => [0x1B#8]
  | .inc_E => [0x1C#8]
  | .dec_E => [0x1D#8]
  | .rra => [0x1F#8]
  | .ld_mHLinc_A => [0x22#8]
  | .inc_HL => [0x23#8]
  | .inc_H => [0x24#8]
  | .dec_H => [0x25#8]
  | .daa => [0x27#8]
  | .add_HL_HL => [0x29#8]
  | .ld_A_mHLinc => [0x2A#8]
  | .dec_HL => [0x2B#8]
  | .inc_L => [0x2C#8]
  | .dec_L => [0x2D#8]
  | .cpl => [0x2F#8]
  | .ld_mHLdec_A => [0x32#8]
  | .inc_SP => [0x33#8]
  | .inc_mHL => [0x34#8]
  | .dec_mHL => [0x35#8]
  | .scf => [0x37#8]
  | .add_HL_SP => [0x39#8]
  | .ld_A_mHLdec => [0x3A#8]
  | .dec_SP => [0x3B#8]
  | .inc_A => [0x3C#8]
  | .dec_A => [0x3D#8]
  | .ccf => [0x3F#8]
  | .ld_B_B => [0x40#8]
  | .ld_B_C => [0x41#8]
  | .ld_B_D => [0x42#8]
  | .ld_B_E => [0x43#8]
  | .ld_B_H => [0x44#8]
  | .ld_B_L => [0x45#8]
  | .ld_B_mHL => [0x46#8]
  | .ld_B_A => [0x47#8]
  | .ld_C_B => [0x48#8]
  | .ld_C_C => [0x49#8]
  | .ld_C_D => [0x4A#8]
  | .ld_C_E => [0x4B#8]
  | .ld_C_H => [0x4C#8]
  | .ld_C_L => [0x4D#8]
  | .ld_C_mHL => [0x4E#8]
  | .ld_C_A => [0x4F#8]
  | .ld_D_B => [0x50#8]
  | .ld_D_C => [0x51#8]
  | .ld_D_D => [0x52#8]
  | .ld_D_E => [0x53#8]
  | .ld_D_H => [0x54#8]
  | .ld_D_L => [0x55#8]
  | .ld_D_mHL => [0x56#8]
  | .ld_D_A => [0x57#8]
  | .ld_E_B => [0x58#8]
  | .ld_E_C => [0x59#8]
  | .ld_E_D => [0x5A#8]
  | .ld_E_E => [0x5B#8]
  | .ld_E_H => [0x5C#8]
  | .ld_E_L => [0x5D#8]
  | .ld_E_mHL => [0x5E#8]
  | .ld_E_A => [0x5F#8]
  | .ld_H_B => [0x60#8]
  | .ld_H_C => [0x61#8]
  | .ld_H_D => [0x62#8]
  | .ld_H_E => [0x63#8]
  | .ld_H_H => [0x64#8]
  | .ld_H_L => [0x65#8]
  | .ld_H_mHL => [0x66#8]
  | .ld_H_A => [0x67#8]
  | .ld_L_B => [0x68#8]
  | .ld_L_C => [0x69#8]
  | .ld_L_D => [0x6A#8]
  | .ld_L_E => [0x6B#8]
  | .ld_L_H => [0x6C#8]
  | .ld_L_L => [0x6D#8]
  | .ld_L_mHL => [0x6E#8]
  | .ld_L_A => [0x6F#8]
  | .ld_mHL_B => [0x70#8]
  | .ld_mHL_C => [0x71#8]
  | .ld_mHL_D => [0x72#8]
  | .ld_mHL_E => [0x73#8]
  | .ld_mHL_H => [0x74#8]
  | .ld_mHL_L => [0x75#8]
  | .halt => [0x76#8]
  | .ld_mHL_A => [0x77#8]
  | .ld_A_B => [0x78#8]
  | .ld_A_C => [0x79#8]
  | .ld_A_D => [0x7A#8]
  | .ld_A_E => [0x7B#8]
  | .ld_A_H => [0x7C#8]
  | .ld_A_L => [0x7D#8]
  | .ld_A_mHL => [0x7E#8]
  | .ld_A_A => [0x7F#8]
  | .add_A_B => [0x80#8]
  | .add_A_C => [0x81#8]
  | .add_A_D => [0x82#8]
  | .add_A_E => [0x83#8]
  | .add_A_H => [0x84#8]
  | .add_A_L => [0x85#8]
  | .add_A_mHL => [0x86#8]
  | .add_A_A => [0x87#8]
  | .adc_A_B => [0x88#8]
  | .adc_A_C => [0x89#8]
  | .adc_A_D => [0x8A#8]
  | .adc_A_E => [0x8B#8]
  | .adc_A_H => [0x8C#8]
  | .adc_A_L => [0x8D#8]
  | .adc_A_mHL => [0x8E#8]
  | .adc_A_A => [0x8F#8]
  | .sub_B => [0x90#8]
  | .sub_C => [0x91#8]
  | .sub_D => [0x92#8]
  | .sub_E => [0x93#8]
  | .sub_H => [0x94#8]
  | .sub_L => [0x95#8]
  | .sub_mHL => [0x96#8]
  | .sub_A => [0x97#8]
  | .sbc_A_B => [0x98#8]
  | .sbc_A_C => [0x99#8]
  | .sbc_A_D => [0x9A#8]
  | .sbc_A_E => [0x9B#8]
  | .sbc_A_H => [0x9C#8]
  | .sbc_A_L => [0x9D#8]
  | .sbc_A_mHL => [0x9E#8]
  | .sbc_A_A => [0x9F#8]
  | .and_B => [0xA0#8]
  | .and_C => [0xA1#8]
  | .and_D => [0xA2#8]
  | .and_E => [0xA3#8]
  | .and_H => [0xA4#8]
  | .and_L => [0xA5#8]
  | .and_mHL => [0xA6#8]
  | .and_A => [0xA7#8]
  | .xor_B => [0xA8#8]
  | .xor_C => [0xA9#8]
  | .xor_D => [0xAA#8]
  | .xor_E => [0xAB#8]
  | .xor_H => [0xAC#8]
  | .xor_L => [0xAD#8]
  | .xor_mHL => [0xAE#8]
  | .xor_A => [0xAF#8]
  | .or_B => [0xB0#8]
  | .or_C => [0xB1#8]
  | .or_D => [0xB2#8]
  | .or_E => [0xB3#8]
  | .or_H => [0xB4#8]
  | .or_L => [0xB5#8]
  | .or_mHL => [0xB6#8]
  | .or_A => [0xB7#8]
  | .cp_B => [0xB8#8]
  | .cp_C => [0xB9#8]
  | .cp_D => [0xBA#8]
  | .cp_E => [0xBB#8]
  | .cp_H => [0xBC#8]
  | .cp_L => [0xBD#8]
  | .cp_mHL => [0xBE#8]
  | .cp_A => [0xBF#8]
  | .ret_NZ => [0xC0#8]
  | .pop_BC => [0xC1#8]
  | .push_BC => [0xC5#8]
  | .rst_00 => [0xC7#8]
  | .ret_Z => [0xC8#8]
  | .ret => [0xC9#8]
  | .rst_08 => [0xCF#8]
  | .ret_NC => [0xD0#8]
  | .pop_DE => [0xD1#8]
  | .push_DE => [0xD5#8]
  | .rst_10 => [0xD7#8]
  | .ret_C => [0xD8#8]
  | .reti => [0xD9#8]
  | .rst_18 => [0xDF#8]
  | .pop_HL => [0xE1#8]
  | .ld_mC_A => [0xE2#8]
  | .push_HL => [0xE5#8]
  | .rst_20 => [0xE7#8]
  | .jp_HL => [0xE9#8]
  | .rst_28 => [0xEF#8]
  | .pop_AF => [0xF1#8]
  | .ld_A_mC => [0xF2#8]
  | .di => [0xF3#8]
  | .push_AF => [0xF5#8]
  | .rst_30 => [0xF7#8]
  | .ld_SP_HL => [0xF9#8]
  | .ei => [0xFB#8]
  | .rst_38 => [0xFF#8]
  | .rlc_B => [0xCB#8, 0x00#8]
  | .rlc_C => [0xCB#8, 0x01#8]
  | .rlc_D => [0xCB#8, 0x02#8]
  | .rlc_E => [0xCB#8, 0x03#8]
  | .rlc_H => [0xCB#8, 0x04#8]
  | .rlc_L => [0xCB#8, 0x05#8]
  | .rlc_mHL => [0xCB#8, 0x06#8]
  | .rlc_A => [0xCB#8, 0x07#8]
  | .rrc_B => [0xCB#8, 0x08#8]
  | .rrc_C => [0xCB#8, 0x09#8]
  | .rrc_D => [0xCB#8, 0x0A#8]
  | .rrc_E => [0xCB#8, 0x0B#8]
  | .rrc_H => [0xCB#8, 0x0C#8]
  | .rrc_L => [0xCB#8, 0x0D#8]
  | .rrc_mHL => [0xCB#8, 0x0E#8]
  | .rrc_A => [0xCB#8, 0x0F#8]
  | .rl_B => [0xCB#8, 0x10#8]
  | .rl_C => [0xCB#8, 0x11#8]
  | .rl_D => [0xCB#8, 0x12#8]
  | .rl_E => [0xCB#8, 0x13#8]
  | .rl_H => [0xCB#8, 0x14#8]
  | .rl_L => [0xCB#8, 0x15#8]
  | .rl_mHL => [0xCB#8, 0x16#8]
  | .rl_A => [0xCB#8, 0x17#8]
  | .rr_B => [0xCB#8, 0x18#8]
  | .rr_C => [0xCB#8, 0x19#8]
  | .rr_D => [0xCB#8, 0x1A#8]
  | .rr_E => [0xCB#8, 0x1B#8]
  | .rr_H => [0xCB#8, 0x1C#8]
  | .rr_L => [0xCB#8, 0x1D#8]
  | .rr_mHL => [0xCB#8, 0x1E#8]
  | .rr_A => [0xCB#8, 0x1F#8]
  | .sla_B => [0xCB#8, 0x20#8]
  | .sla_C => [0xCB#8, 0x21#8]
  | .sla_D => [0xCB#8, 0x22#8]
  | .sla_E => [0xCB#8, 0x23#8]
  | .sla_H => [0xCB#8, 0x24#8]
  | .sla_L => [0xCB#8, 0x25#8]
  | .sla_mHL => [0xCB#8, 0x26#8]
  | .sla_A => [0xCB#8, 0x27#8]
  | .sra_B => [0xCB#8, 0x28#8]
  | .sra_C => [0xCB#8, 0x29#8]
  | .sra_D => [0xCB#8, 0x2A#8]
  | .sra_E => [0xCB#8, 0x2B#8]
  | .sra_H => [0xCB#8, 0x2C#8]
  | .sra_L => [0xCB#8, 0x2D#8]
  | .sra_mHL => [0xCB#8, 0x2E#8]
  | .sra_A => [0xCB#8, 0x2F#8]
  | .swap_B => [0xCB#8, 0x30#8]
  | .swap_C => [0xCB#8, 0x31#8]
  | .swap_D => [0xCB#8, 0x32#8]
  | .swap_E => [0xCB#8, 0x33#8]
  | .swap_H => [0xCB#8, 0x34#8]
  | .swap_L => [0xCB#8, 0x35#8]
  | .swap_mHL => [0xCB#8, 0x36#8]
  | .swap_A => [0xCB#8, 0x37#8]
  | .srl_B => [0xCB#8, 0x38#8]
  | .srl_C => [0xCB#8, 0x39#8]
  | .srl_D => [0xCB#8, 0x3A#8]
  | .srl_E => [0xCB#8, 0x3B#8]
  | .srl_H => [0xCB#8, 0x3C#8]
  | .srl_L => [0xCB#8, 0x3D#8]
  | .srl_mHL => [0xCB#8, 0x3E#8]
  | .srl_A => [0xCB#8, 0x3F#8]
  | .bit_0_B => [0xCB#8, 0x40#8]
  | .bit_0_C => [0xCB#8, 0x41#8]
  | .bit_0_D => [0xCB#8, 0x42#8]
  | .bit_0_E => [0xCB#8, 0x43#8]
  | .bit_0_H => [0xCB#8, 0x44#8]
  | .bit_0_L => [0xCB#8, 0x45#8]
  | .bit_0_mHL => [0xCB#8, 0x46#8]
  | .bit_0_A => [0xCB#8, 0x47#8]
  | .bit_1_B => [0xCB#8, 0x48#8]
  | .bit_1_C => [0xCB#8, 0x49#8]
  | .bit_1_D => [0xCB#8, 0x4A#8]
  | .bit_1_E => [0xCB#8, 0x4B#8]
  | .bit_1_H => [0xCB#8, 0x4C#8]
  | .bit_1_L => [0xCB#8, 0x4D#8]
  | .bit_1_mHL => [0xCB#8, 0x4E#8]
  | .bit_1_A => [0xCB#8, 0x4F#8]
  | .bit_2_B => [0xCB#8, 0x50#8]
  | .bit_2_C => [0xCB#8, 0x51#8]
  | .bit_2_D => [0xCB#8, 0x52#8]
  | .bit_2_E => [0xCB#8, 0x53#8]
  | .bit_2_H => [0xCB#8, 0x54#8]
  | .bit_2_L => [0xCB#8, 0x55#8]
  | .bit_2_mHL => [0xCB#8, 0x56#8]
  | .bit_2_A => [0xCB#8, 0x57#8]
  | .bit_3_B => [0xCB#8, 0x58#8]
  | .bit_3_C => [0xCB#8, 0x59#8]
  | .bit_3_D => [0xCB#8, 0x5A#8]
  | .bit_3_E => [0xCB#8, 0x5B#8]
  | .bit_3_H => [0xCB#8, 0x5C#8]
  | .bit_3_L => [0xCB#8, 0x5D#8]
  | .bit_3_mHL => [0xCB#8, 0x5E#8]
  | .bit_3_A => [0xCB#8, 0x5F#8]
  | .bit_4_B => [0xCB#8, 0x60#8]
  | .bit_4_C => [0xCB#8, 0x61#8]
  | .bit_4_D => [0xCB#8, 0x62#8]
  | .bit_4_E => [0xCB#8, 0x63#8]
  | .bit_4_H => [0xCB#8, 0x64#8]
  | .bit_4_L => [0xCB#8, 0x65#8]
  | .bit_4_mHL => [0xCB#8, 0x66#8]
  | .bit_4_A => [0xCB#8, 0x67#8]
  | .bit_5_B => [0xCB#8, 0x68#8]
  | .bit_5_C => [0xCB#8, 0x69#8]
  | .bit_5_D => [0xCB#8, 0x6A#8]
  | .bit_5_E => [0xCB#8, 0x6B#8]
  | .bit_5_H => [0xCB#8, 0x6C#8]
  | .bit_5_L => [0xCB#8, 0x6D#8]
  | .bit_5_mHL => [0xCB#8, 0x6E#8]
  | .bit_5_A => [0xCB#8, 0x6F#8]
  | .bit_6_B => [0xCB#8, 0x70#8]
  | .bit_6_C => [0xCB#8, 0x71#8]
  | .bit_6_D => [0xCB#8, 0x72#8]
  | .bit_6_E => [0xCB#8, 0x73#8]
  | .bit_6_H => [0xCB#8, 0x74#8]
  | .bit_6_L => [0xCB#8, 0x75#8]
  | .bit_6_mHL => [0xCB#8, 0x76#8]
  | .bit_6_A => [0xCB#8, 0x77#8]
  | .bit_7_B => [0xCB#8, 0x78#8]
  | .bit_7_C => [0xCB#8, 0x79#8]
  | .bit_7_D => [0xCB#8, 0x7A#8]
  | .bit_7_E => [0xCB#8, 0x7B#8]
  | .bit_7_H => [0xCB#8, 0x7C#8]
  | .bit_7_L => [0xCB#8, 0x7D#8]
  | .bit_7_mHL => [0xCB#8, 0x7E#8]
  | .bit_7_A => [0xCB#8, 0x7F#8]
  | .res_0_B => [0xCB#8, 0x80#8]
  | .res_0_C => [0xCB#8, 0x81#8]
  | .res_0_D => [0xCB#8, 0x82#8]
  | .res_0_E => [0xCB#8, 0x83#8]
  | .res_0_H => [0xCB#8, 0x84#8]
  | .res_0_L => [0xCB#8, 0x85#8]
  | .res_0_mHL => [0xCB#8, 0x86#8]
  | .res_0_A => [0xCB#8, 0x87#8]
  | .res_1_B => [0xCB#8, 0x88#8]
  | .res_1_C => [0xCB#8, 0x89#8]
  | .res_1_D => [0xCB#8, 0x8A#8]
  | .res_1_E => [0xCB#8, 0x8B#8]
  | .res_1_H => [0xCB#8, 0x8C#8]
  | .res_1_L => [0xCB#8, 0x8D#8]
  | .res_1_mHL => [0xCB#8, 0x8E#8]
  | .res_1_A => [0xCB#8, 0x8F#8]
  | .res_2_B => [0xCB#8, 0x90#8]
  | .res_2_C => [0xCB#8, 0x91#8]
  | .res_2_D => [0xCB#8, 0x92#8]
  | .res_2_E => [0xCB#8, 0x93#8]
  | .res_2_H => [0xCB#8, 0x94#8]
  | .res_2_L => [0xCB#8, 0x95#8]
  | .res_2_mHL => [0xCB#8, 0x96#8]
  | .res_2_A => [0xCB#8, 0x97#8]
  | .res_3_B => [0xCB#8, 0x98#8]
  | .res_3_C => [0xCB#8, 0x99#8]
  | .res_3_D => [0xCB#8, 0x9A#8]
  | .res_3_E => [0xCB#8, 0x9B#8]
  | .res_3_H => [0xCB#8, 0x9C#8]
  | .res_3_L => [0xCB#8, 0x9D#8]
  | .res_3_mHL => [0xCB#8, 0x9E#8]
  | .res_3_A => [0xCB#8, 0x9F#8]
  | .res_4_B => [0xCB#8, 0xA0#8]
  | .res_4_C => [0xCB#8, 0xA1#8]
  | .res_4_D => [0xCB#8, 0xA2#8]
  | .res_4_E => [0xCB#8, 0xA3#8]
  | .res_4_H => [0xCB#8, 0xA4#8]
  | .res_4_L => [0xCB#8, 0xA5#8]
  | .res_4_mHL => [0xCB#8, 0xA6#8]
  | .res_4_A => [0xCB#8, 0xA7#8]
  | .res_5_B => [0xCB#8, 0xA8#8]
  | .res_5_C => [0xCB#8, 0xA9#8]
  | .res_5_D => [0xCB#8, 0xAA#8]
  | .res_5_E => [0xCB#8, 0xAB#8]
  | .res_5_H => [0xCB#8, 0xAC#8]
  | .res_5_L => [0xCB#8, 0xAD#8]
  | .res_5_mHL => [0xCB#8, 0xAE#8]
  | .res_5_A => [0xCB#8, 0xAF#8]
  | .res_6_B => [0xCB#8, 0xB0#8]
  | .res_6_C => [0xCB#8, 0xB1#8]
  | .res_6_D => [0xCB#8, 0xB2#8]
  | .res_6_E => [0xCB#8, 0xB3#8]
  | .res_6_H => [0xCB#8, 0xB4#8]
  | .res_6_L => [0xCB#8, 0xB5#8]
  | .res_6_mHL => [0xCB#8, 0xB6#8]
  | .res_6_A => [0xCB#8, 0xB7#8]
  | .res_7_B => [0xCB#8, 0xB8#8]
  | .res_7_C => [0xCB#8, 0xB9#8]
  | .res_7_D => [0xCB#8, 0xBA#8]
  | .res_7_E => [0xCB#8, 0xBB#8]
  | .res_7_H => [0xCB#8, 0xBC#8]
  | .res_7_L => [0xCB#8, 0xBD#8]
  | .res_7_mHL => [0xCB#8, 0xBE#8]
  | .res_7_A => [0xCB#8, 0xBF#8]
  | .set_0_B => [0xCB#8, 0xC0#8]
  | .set_0_C => [0xCB#8, 0xC1#8]
  | .set_0_D => [0xCB#8, 0xC2#8]
  | .set_0_E => [0xCB#8, 0xC3#8]
  | .set_0_H => [0xCB#8, 0xC4#8]
  | .set_0_L => [0xCB#8, 0xC5#8]
  | .set_0_mHL => [0xCB#8, 0xC6#8]
  | .set_0_A => [0xCB#8, 0xC7#8]
  | .set_1_B => [0xCB#8, 0xC8#8]
  | .set_1_C => [0xCB#8, 0xC9#8]
  | .set_1_D => [0xCB#8, 0xCA#8]
  | .set_1_E => [0xCB#8, 0xCB#8]
  | .set_1_H => [0xCB#8, 0xCC#8]
  | .set_1_L => [0xCB#8, 0xCD#8]
  | .set_1_mHL => [0xCB#8, 0xCE#8]
  | .set_1_A => [0xCB#8, 0xCF#8]
  | .set_2_B => [0xCB#8, 0xD0#8]
  | .set_2_C => [0xCB#8, 0xD1#8]
  | .set_2_D => [0xCB#8, 0xD2#8]
  | .set_2_E => [0xCB#8, 0xD3#8]
  | .set_2_H => [0xCB#8, 0xD4#8]
  | .set_2_L => [0xCB#8, 0xD5#8]
  | .set_2_mHL => [0xCB#8, 0xD6#8]
  | .set_2_A => [0xCB#8, 0xD7#8]
  | .set_3_B => [0xCB#8, 0xD8#8]
  | .set_3_C => [0xCB#8, 0xD9#8]
  | .set_3_D => [0xCB#8, 0xDA#8]
  | .set_3_E => [0xCB#8, 0xDB#8]
  | .set_3_H => [0xCB#8, 0xDC#8]
  | .set_3_L => [0xCB#8, 0xDD#8]
  | .set_3_mHL => [0xCB#8, 0xDE#8]
  | .set_3_A => [0xCB#8, 0xDF#8]
  | .set_4_B => [0xCB#8, 0xE0#8]
  | .set_4_C => [0xCB#8, 0xE1#8]
  | .set_4_D => [0xCB#8, 0xE2#8]
  | .set_4_E => [0xCB#8, 0xE3#8]
  | .set_4_H => [0xCB#8, 0xE4#8]
  | .set_4_L => [0xCB#8, 0xE5#8]
  | .set_4_mHL => [0xCB#8, 0xE6#8]
  | .set_4_A => [0xCB#8, 0xE7#8]
  | .set_5_B => [0xCB#8, 0xE8#8]
  | .set_5_C => [0xCB#8, 0xE9#8]
  | .set_5_D => [0xCB#8, 0xEA#8]
  | .set_5_E => [0xCB#8, 0xEB#8]
  | .set_5_H => [0xCB#8, 0xEC#8]
  | .set_5_L => [0xCB#8, 0xED#8]
  | .set_5_mHL => [0xCB#8, 0xEE#8]
  | .set_5_A => [0xCB#8, 0xEF#8]
  | .set_6_B => [0xCB#8, 0xF0#8]
  | .set_6_C => [0xCB#8, 0xF1#8]
  | .set_6_D => [0xCB#8, 0xF2#8]
  | .set_6_E => [0xCB#8, 0xF3#8]
  | .set_6_H => [0xCB#8, 0xF4#8]
  | .set_6_L => [0xCB#8, 0xF5#8]
  | .set_6_mHL => [0xCB#8, 0xF6#8]
  | .set_6_A => [0xCB#8, 0xF7#8]
  | .set_7_B => [0xCB#8, 0xF8#8]
  | .set_7_C => [0xCB#8, 0xF9#8]
  | .set_7_D => [0xCB#8, 0xFA#8]
  | .set_7_E => [0xCB#8, 0xFB#8]
  | .set_7_H => [0xCB#8, 0xFC#8]
  | .set_7_L => [0xCB#8, 0xFD#8]
  | .set_7_mHL => [0xCB#8, 0xFE#8]
  | .set_7_A => [0xCB#8, 0xFF#8]

/-- The length of an instruction in bytes (R90). -/
def Instr.length (i : Instr) : Nat := (encode i).length

/-- What decoding a list of bytes gives. -/
inductive Decoded where
  /-- An instruction and the bytes after it. -/
  | instr (i : Instr) (rest : List Byte)
  /-- The list ends inside the instruction. A fetch never meets this: it reads every byte it needs. -/
  | truncated
  deriving DecidableEq, Repr

/-- Decoding a list of bytes, total: the first instruction and the rest, or `truncated`. -/
def decode (p : Profile) : List Byte → Decoded
  | [] => .truncated
  | op :: rest =>
    let i := decodeInstr p op (rest.getD 0 0#8) (rest.getD 1 0#8)
    if (op :: rest).length < i.length then .truncated
    else .instr i ((op :: rest).drop i.length)

/-! ## Words as the opcode table numbers them -/

/-- The three bytes in fetch order of the instruction word `w` of `nbits` bits (log entry 4). A CB row
gives its two bytes as ONE number with the first fetched byte in the high half (R108: `"0xCB37"`);
every other row gives the first byte in bits 7..0 and later bytes above it. -/
def tableBytes (nbits w : Nat) : List Byte :=
  let v := w % 2 ^ nbits
  if nbits = 16 ∧ v / 256 = 0xCB then [0xCB#8, BitVec.ofNat 8 v, 0#8]
  else [BitVec.ofNat 8 v, BitVec.ofNat 8 (v / 256), BitVec.ofNat 8 (v / 65536)]

/-- The instruction of the default profile that the decoder reads from a table word. -/
def decodeTableWord (nbits w : Nat) : Option Instr :=
  match decode .sm83Complete (tableBytes nbits w) with
  | .instr i _ => some i
  | .truncated => none

end Sys2Proof
end

