-- ==== Sys2Proof/Machine/State.lean ====
section
/-! DEFINITION. The state of the machine (10_state.md), the state after reset (R40), and the reasons a
step stops. -/

namespace Sys2Proof.Machine

/-- What a decode failure records (60_exceptions.md R351). -/
structure DecodeFailure where
  /-- The offending opcode byte; the second byte for a failure of the CB table. -/
  byte : Byte
  /-- The address that byte was read from. -/
  addr : Word
  /-- Whether the byte followed the `0xCB` byte. -/
  wasPrefixed : Bool
  deriving DecidableEq, Repr

/-- The bytes of plain storage that something has loaded or written: addresses strictly rising, none of
them `0xFF0F` or `0xFFFF` (R35). An address not listed holds no value of its own: the bus reads
the free image there (log entry 1). -/
abbrev Memory := List Host.Cell

/-- The state: the registers (R20 to R26), the control bits (R27 to R30), the interrupt registers (R32,
R33), the memory (R35), the fault latch (R36), and the launch parameters (00_scope.md R6). -/
structure State where
  /-- Register `A`, the accumulator (R20). -/
  a : Byte
  /-- Register `B` (R20). -/
  b : Byte
  /-- Register `C` (R20). -/
  c : Byte
  /-- Register `D` (R20). -/
  d : Byte
  /-- Register `E` (R20). -/
  e : Byte
  /-- Register `H` (R20). -/
  h : Byte
  /-- Register `L` (R20). -/
  l : Byte
  /-- The flag register: `Z`, `N`, `H`, `C` in bits 7 to 4, zero in bits 3 to 0 (R21). -/
  f : Byte
  /-- The program counter (R25). -/
  pc : Word
  /-- The stack pointer (R26). -/
  sp : Word
  /-- `halted` (R27). -/
  halted : Bool
  /-- `IME` (R28). -/
  ime : Bool
  /-- `IME_scheduled` (R29). -/
  imeScheduled : Bool
  /-- `halt_bug` (R30). -/
  haltBug : Bool
  /-- `IF_stored`, at bus address `0xFF0F` (R32). -/
  ifStored : BitVec 5
  /-- `IE_stored`, at bus address `0xFFFF` (R33): with `IE_WIDTH = 5` its bits 7 to 5 are zero. -/
  ieStored : Byte
  /-- The plain storage (R35). -/
  mem : Memory
  /-- The fault latch (R36). -/
  fault : Option DecodeFailure
  /-- The launch parameters (00_scope.md R6); no step changes them (log entry 2). -/
  cfg : Config
  deriving DecidableEq, Repr

/-- Why a step stops with a fault. -/
inductive Fault where
  /-- Raised by `step` in a state whose fault latch is set (40_step_cycle.md R131 step 0, R139): the
  machine has met an unmapped opcode and does nothing more. It is the spec's own stop, so it is
  safe: no claim of normal completion holds of a faulted machine. -/
  | decodeFailure (byte : Byte) (addr : Word) (wasPrefixed : Bool)
  deriving DecidableEq, Repr

/-- Why a step refuses. -/
inductive Refusal where
  /-- Raised by an arm of `exec` whose instruction has no meaning in the model; no arm does. Safe: the
  model stops where the hardware would go on. -/
  | notModelled (mnemonic : String)
  deriving DecidableEq, Repr

/-- The state right after reset (R40), with the default parameters of 00_scope.md R6. -/
def State.reset : State :=
  { a := 0#8, b := 0#8, c := 0#8, d := 0#8, e := 0#8, h := 0#8, l := 0#8, f := 0#8
    pc := 0x0000#16
    sp := 0xFFFE#16
    halted := false
    ime := false
    imeScheduled := false
    haltBug := false
    ifStored := 0#5
    ieStored := 0#8
    mem := []
    fault := none
    cfg := Config.default }

end Sys2Proof.Machine
end

