-- ==== Sys2Proof/Machine/Ops.lean ====
section
/-! DEFINITION. The named operations over memory, registers and control bits (10_state.md,
20_memory.md), the stack (44_load16_stack.md R266, R267), the taking of an interrupt and of the
decode failure (60_exceptions.md), and the parts of a step (40_step_cycle.md). -/

namespace Sys2Proof.Machine

/-- What one instruction or one step answers. -/
abbrev StepResult := Host.Outcome State Fault Refusal

/-! ## Memory as a list -/

/-- The byte listed at an address, if one is. -/
def Memory.lookup : Memory → Nat → Option Byte
  | [], _ => none
  | (k, v) :: rest, a => if k = a then some v else Memory.lookup rest a

/-- The memory with `v` listed at `a`, the addresses staying strictly rising. -/
def Memory.store : Memory → Nat → Byte → Memory
  | [], a, v => [(a, v)]
  | (k, w) :: rest, a, v =>
    if a < k then (a, v) :: (k, w) :: rest
    else if a = k then (a, v) :: rest
    else (k, w) :: Memory.store rest a v

/-- The addresses of the list rise strictly from `lo` on, lie in the address space, and are not the two
interrupt registers (R35). -/
def Memory.wfFrom : Nat → Memory → Bool
  | _, [] => true
  | lo, (k, _) :: rest =>
    decide (lo ≤ k) && decide (k < 65536) && k != 0xFF0F && k != 0xFFFF && Memory.wfFrom (k + 1) rest

/-- The canonical form of a memory (log entry 1). -/
def Memory.wf (m : Memory) : Bool := Memory.wfFrom 0 m

/-! ## The bus -/

/-- The address of IF (R32). -/
def ifAddr : Word := 0xFF0F#16

/-- The address of IE (R33). -/
def ieAddr : Word := 0xFFFF#16

/-- What IE stores of a byte written to it (R33): the low 5 bits, or all 8. -/
def ieMask (w : IeWidth) (v : Byte) : Byte :=
  match w with
  | .five => v &&& 0x1F#8
  | .eight => v

/-- What IF stores of a byte written to it (R32): the low 5 bits. -/
def ifMask (v : Byte) : BitVec 5 := v.extractLsb' 0 5

/-- The plain storage at an address: the listed byte, else the free image (R41). -/
def State.storage (s : State) (a : Word) : Byte :=
  (Memory.lookup s.mem a.toNat).getD (Config.initialImage a)

/-- `MemRead(addr, 1)` (20_memory.md R61). -/
def State.memRead (s : State) (a : Word) : Byte :=
  if a = ifAddr then s.ifStored.zeroExtend 8 ||| 0xE0#8
  else if a = ieAddr then s.ieStored
  else s.storage a

/-- `MemWrite(addr, 1, v)` (R62). -/
def State.memWrite (s : State) (a : Word) (v : Byte) : State :=
  if a = ifAddr then { s with ifStored := ifMask v }
  else if a = ieAddr then { s with ieStored := ieMask s.cfg.ieWidth v }
  else { s with mem := Memory.store s.mem a.toNat v }

/-- What a read of `a` gives right after a write of `v` to `a` (R61, R62): `v`, but for the masks of the
two interrupt registers. -/
def State.readBack (s : State) (a : Word) (v : Byte) : Byte :=
  if a = ifAddr then v ||| 0xE0#8
  else if a = ieAddr then ieMask s.cfg.ieWidth v
  else v

/-! ## Registers -/

/-- A read of an 8-bit register (10_state.md R20). -/
def State.reg (s : State) : Reg8 → Byte
  | .a => s.a | .b => s.b | .c => s.c | .d => s.d | .e => s.e | .h => s.h | .l => s.l

/-- A write of an 8-bit register (R20). -/
def State.setReg (s : State) (r : Reg8) (v : Byte) : State :=
  match r with
  | .a => { s with a := v }
  | .b => { s with b := v }
  | .c => { s with c := v }
  | .d => { s with d := v }
  | .e => { s with e := v }
  | .h => { s with h := v }
  | .l => { s with l := v }

/-- A read of the flag register: bits 3 to 0 read as 0 (R21). -/
def State.readF (s : State) : Byte := s.f &&& 0xF0#8

/-- A write of the flag register stores `v & 0xF0` (R21). -/
def State.setF (s : State) (v : Byte) : State := { s with f := v &&& 0xF0#8 }

/-- The pair `AF` (R22). -/
def State.af (s : State) : Word := joinBytes s.a s.readF

/-- The pair `BC` (R22). -/
def State.bc (s : State) : Word := joinBytes s.b s.c

/-- The pair `DE` (R22). -/
def State.de (s : State) : Word := joinBytes s.d s.e

/-- The pair `HL` (R22). -/
def State.hl (s : State) : Word := joinBytes s.h s.l

/-- A write of `AF` masks the low nibble of `F` (R23). -/
def State.setAF (s : State) (v : Word) : State :=
  { s with a := hiByte v, f := loByte v &&& 0xF0#8 }

/-- A write of `BC` (R23). -/
def State.setBC (s : State) (v : Word) : State := { s with b := hiByte v, c := loByte v }

/-- A write of `DE` (R23). -/
def State.setDE (s : State) (v : Word) : State := { s with d := hiByte v, e := loByte v }

/-- A write of `HL` (R23). -/
def State.setHL (s : State) (v : Word) : State := { s with h := hiByte v, l := loByte v }

/-- A read of `BC`, `DE`, `HL` or `SP` (30_encoding.md R93, column `r16`). -/
def State.pair (s : State) : Pair16 → Word
  | .bc => s.bc | .de => s.de | .hl => s.hl | .sp => s.sp

/-- A write of `BC`, `DE`, `HL` or `SP`. -/
def State.setPair (s : State) (p : Pair16) (v : Word) : State :=
  match p with
  | .bc => s.setBC v
  | .de => s.setDE v
  | .hl => s.setHL v
  | .sp => { s with sp := v }

/-- A read of `BC`, `DE`, `HL` or `AF` (R93, column `r16stk`). -/
def State.stackPair (s : State) : StackPair → Word
  | .bc => s.bc | .de => s.de | .hl => s.hl | .af => s.af

/-- A write of `BC`, `DE`, `HL` or `AF`. -/
def State.setStackPair (s : State) (p : StackPair) (v : Word) : State :=
  match p with
  | .bc => s.setBC v
  | .de => s.setDE v
  | .hl => s.setHL v
  | .af => s.setAF v

/-! ## The fetch cursor -/

/-- The cursor after the opcode fetch at `PC` (40_step_cycle.md R136): one further, but under the halt
bug not advanced. -/
def State.cursor (s : State) : Word := if s.haltBug then s.pc else s.pc + 1#16

/-- `next` (R143): the cursor after the last byte of an instruction of `n` bytes, `PC + n`, or
`PC + (n - 1)` under the halt bug. -/
def State.next (s : State) (n : Nat) : Word := s.cursor + BitVec.ofNat 16 (n - 1)

/-- The state in which an instruction of `n` bytes executes (R136 to R138): the opcode fetch has consumed
`halt_bug`, and `pc` holds `next`, which an instruction that does not transfer control commits
(R140). -/
def State.advance (s : State) (n : Nat) : State := { s with pc := s.next n, haltBug := false }

/-- The instruction at the cursor (R136 to R138, R105): the opcode is read at `PC`, the bytes after it at
the cursor. The reads change nothing (20_memory.md R61). -/
def State.fetch (s : State) : Instr :=
  decodeInstr s.cfg.profile (s.memRead s.pc) (s.memRead s.cursor) (s.memRead (s.cursor + 1#16))

/-! ## The stack -/

/-- `push16(v)` (44_load16_stack.md R266): the high byte first, each after a decrement of `SP`. -/
def State.push16 (s : State) (v : Word) : State :=
  let s1 := ({ s with sp := s.sp - 1#16 }).memWrite (s.sp - 1#16) (hiByte v)
  ({ s1 with sp := s1.sp - 1#16 }).memWrite (s1.sp - 1#16) (loByte v)

/-- The value `pop16()` returns (R267): the low byte at `SP`, the high byte at `SP + 1`. -/
def State.popValue (s : State) : Word := joinBytes (s.memRead (s.sp + 1#16)) (s.memRead s.sp)

/-- `SP` after `pop16()` (R267): two higher. -/
def State.popped (s : State) : State := { s with sp := s.sp + 2#16 }

/-! ## Interrupts and the decode failure -/

/-- The five interrupt sources (60_exceptions.md R354). -/
inductive IntSource where
  | vblank | lcdStat | timer | serial | joypad
  deriving DecidableEq, Repr

/-- The bit of IF and IE of a source (R354). -/
def intBit : IntSource → Nat
  | .vblank => 0 | .lcdStat => 1 | .timer => 2 | .serial => 3 | .joypad => 4

/-- The service address of a source (R354). -/
def vectorOf (v : Vectors) : IntSource → Word
  | .vblank => v.vblank | .lcdStat => v.lcdStat | .timer => v.timer
  | .serial => v.serial | .joypad => v.joypad

/-- `pending = IE & IF & 0x1F` (10_state.md R34). -/
def State.pending (s : State) : BitVec 5 := s.ieStored.extractLsb' 0 5 &&& s.ifStored

/-- The source a dispatch serves (60_exceptions.md R357): the lowest set bit, if any is set. -/
def lowestPending (p : BitVec 5) : Option IntSource :=
  if p.getLsbD 0 then some .vblank
  else if p.getLsbD 1 then some .lcdStat
  else if p.getLsbD 2 then some .timer
  else if p.getLsbD 3 then some .serial
  else if p.getLsbD 4 then some .joypad
  else none

/-- TAKING AN INTERRUPT (60_exceptions.md R358): `PC` is pushed, `IME` cleared, the served request
cleared in IF as the pushes left it, and `PC` set to the source's vector. -/
def State.dispatch (s : State) (i : IntSource) : State :=
  let t := s.push16 s.pc
  { t with
    ime := false
    ifStored := t.ifStored &&& ~~~(1#5 <<< intBit i)
    pc := vectorOf t.cfg.vectors i }

/-- TAKING THE DECODE FAILURE (40_step_cycle.md R139, 60_exceptions.md R351): the latch is set and nothing
else is written. -/
def State.fail (s : State) (byte : Byte) (addr : Word) (wasPrefixed : Bool) : State :=
  { s with fault := some { byte := byte, addr := addr, wasPrefixed := wasPrefixed } }

/-- RETURNING (45_control_flow.md R287, 60_exceptions.md R362): `pc <- pop16()`, nothing else restored. -/
def State.returnPop (s : State) : State := { s.popped with pc := s.popValue }

/-! ## The parts of a step -/

/-- Step 2, the wake (40_step_cycle.md R133). -/
def State.wake (s : State) : State :=
  if s.halted = true ∧ s.pending ≠ 0#5 then { s with halted := false } else s

/-- Step 6, the delayed enable (R141): `IME` is set if the schedule was set when the step began and still
is. A failed step commits nothing (R139). -/
def State.promote (schedBefore : Bool) (s : State) : State :=
  if schedBefore = true ∧ s.imeScheduled = true ∧ s.fault = none then
    { s with ime := true, imeScheduled := false }
  else s

/-- Step 6 on what the execution answered. -/
def promoteResult (schedBefore : Bool) : StepResult → StepResult
  | .next t => .next (t.promote schedBefore)
  | .fault r => .fault r
  | .refused r => .refused r

/-- The source a step dispatches (R135): in a woken, running core with `IME` set, the highest-priority
pending one. -/
def State.toDispatch (s : State) : Option IntSource :=
  if s.ime then lowestPending s.pending else none

/-- `step` (R131), `run` being what executes an instruction: step 0 the latch, steps 1 and 2 the wake,
step 3 the idle test, step 3a the dispatch, steps 4 and 5 fetch and execution, step 6 the enable. -/
def stepWith (run : Instr → State → StepResult) (s : State) : StepResult :=
  match s.fault with
  | some x => .fault (.decodeFailure x.byte x.addr x.wasPrefixed)
  | none =>
    let w := s.wake
    if w.halted then .next w
    else
      match w.toDispatch with
      | some i => .next (w.dispatch i)
      | none => promoteResult w.imeScheduled (run w.fetch w)

/-- What the next step does (00_scope.md R11). -/
inductive StepEvent where
  /-- The core is halted and stays halted. -/
  | idle
  /-- An interrupt is served; no instruction is fetched. -/
  | dispatched (i : IntSource)
  /-- An instruction is fetched and executed. -/
  | executed (i : Instr)
  /-- The opcode at `PC` is unmapped, or the machine has already failed. -/
  | failed (x : DecodeFailure)
  deriving DecidableEq, Repr

/-- The decode failure a fetched instruction stands for (R139): for an opcode of the base table its
address is `PC`, for a second byte the cursor. -/
def failureOf (s : State) : Instr → Option DecodeFailure
  | .unmapped op => some { byte := op, addr := s.pc, wasPrefixed := false }
  | .unmapped_STOP => some { byte := 0x10#8, addr := s.pc, wasPrefixed := false }
  | .prefix_CB cb => some { byte := cb, addr := s.cursor, wasPrefixed := true }
  | _ => none

/-- The outcome of the next step, in the spec's four kinds (00_scope.md R11, 60_exceptions.md R364). -/
def State.event (s : State) : StepEvent :=
  match s.fault with
  | some x => .failed x
  | none =>
    let w := s.wake
    if w.halted then .idle
    else
      match w.toDispatch with
      | some i => .dispatched i
      | none =>
        match failureOf w w.fetch with
        | some x => .failed x
        | none => .executed w.fetch

/-! ## Placing an instruction at the fetch -/

/-- The state with three bytes written where the next step fetches, and with whatever would keep the
next step from fetching them set aside: the latch, the halt, the halt bug, and an enable that would
dispatch a pending interrupt. -/
def State.placeAtFetch (s : State) (bytes : List Byte) : State :=
  let s1 := s.memWrite s.pc (bytes.getD 0 0#8)
  let s2 := s1.memWrite (s.pc + 1#16) (bytes.getD 1 0#8)
  let s3 := s2.memWrite (s.pc + 2#16) (bytes.getD 2 0#8)
  { s3 with
    fault := none
    halted := false
    haltBug := false
    ime := s3.ime && s3.pending == 0#5 }

end Sys2Proof.Machine
end

