-- ==== Sys2Proof/Machine/Flags.lean ====
section
/-! DEFINITION. The flag register by its flags (10_state.md R21) and every result and flag computation of
the spec: 41_alu8.md R160 to R168, R198, 42_alu16.md R210, R214, 47_cb_prefixed.md R342. -/

namespace Sys2Proof.Machine

/-! ## The four flags -/

/-- `Z`, bit 7 of `F` (R21). -/
def State.flagZ (s : State) : Bool := s.f.getLsbD 7

/-- `N`, bit 6 of `F` (R21). -/
def State.flagN (s : State) : Bool := s.f.getLsbD 6

/-- `H`, bit 5 of `F` (R21). -/
def State.flagH (s : State) : Bool := s.f.getLsbD 5

/-- `C`, bit 4 of `F` (R21). -/
def State.flagC (s : State) : Bool := s.f.getLsbD 4

/-- The byte with `Z`, `N`, `H`, `C` in bits 7 to 4 and zero in bits 3 to 0 (R21). -/
def flagByte (z n h c : Bool) : Byte :=
  (if z then 0x80#8 else 0#8) ||| (if n then 0x40#8 else 0#8) |||
    (if h then 0x20#8 else 0#8) ||| (if c then 0x10#8 else 0#8)

/-- A write of the four flags; a flag an instruction leaves unchanged is passed as it was. -/
def State.setFlags (s : State) (z n h c : Bool) : State := s.setF (flagByte z n h c)

/-! ## The 8-bit ALU functions -/

/-- A result and the four flags (41_alu8.md section 1). -/
structure AluOut where
  res : Byte
  z : Bool
  n : Bool
  h : Bool
  c : Bool
  deriving DecidableEq, Repr

/-- `add8(a, v)` (R160). -/
def add8 (a v : Byte) : AluOut :=
  let s := a.toNat + v.toNat
  let res := BitVec.ofNat 8 s
  { res := res, z := res == 0#8, n := false
    h := decide (a.toNat % 16 + v.toNat % 16 > 0xF), c := decide (s > 0xFF) }

/-- `adc8(a, v, cin)` (R161). -/
def adc8 (a v : Byte) (cin : Bool) : AluOut :=
  let s := a.toNat + v.toNat + cin.toNat
  let res := BitVec.ofNat 8 s
  { res := res, z := res == 0#8, n := false
    h := decide (a.toNat % 16 + v.toNat % 16 + cin.toNat > 0xF), c := decide (s > 0xFF) }

/-- `sub8(a, v)` (R162). -/
def sub8 (a v : Byte) : AluOut :=
  let res := a - v
  { res := res, z := res == 0#8, n := true
    h := decide (a.toNat % 16 < v.toNat % 16), c := decide (a.toNat < v.toNat) }

/-- `sbc8(a, v, cin)` (R163): `v + cin` is not truncated. -/
def sbc8 (a v : Byte) (cin : Bool) : AluOut :=
  let res := a - v - (if cin then 1#8 else 0#8)
  { res := res, z := res == 0#8, n := true
    h := decide (a.toNat % 16 < v.toNat % 16 + cin.toNat)
    c := decide (a.toNat < v.toNat + cin.toNat) }

/-- `and8(a, v)` (R164). -/
def and8 (a v : Byte) : AluOut :=
  { res := a &&& v, z := (a &&& v) == 0#8, n := false, h := true, c := false }

/-- `or8(a, v)` (R165). -/
def or8 (a v : Byte) : AluOut :=
  { res := a ||| v, z := (a ||| v) == 0#8, n := false, h := false, c := false }

/-- `xor8(a, v)` (R166). -/
def xor8 (a v : Byte) : AluOut :=
  { res := a ^^^ v, z := (a ^^^ v) == 0#8, n := false, h := false, c := false }

/-- `inc8(v)` (R167); the carry flag is not an output, so `c` passes the one given. -/
def inc8 (v : Byte) (c : Bool) : AluOut :=
  { res := v + 1#8, z := (v + 1#8) == 0#8, n := false, h := decide (v.toNat % 16 + 1 > 0xF), c := c }

/-- `dec8(v)` (R168); the carry flag is not an output, so `c` passes the one given. -/
def dec8 (v : Byte) (c : Bool) : AluOut :=
  { res := v - 1#8, z := (v - 1#8) == 0#8, n := true, h := decide (v.toNat % 16 = 0), c := c }

/-- The operation of the ALU field (30_encoding.md R95); `CP` computes as `SUB` (R191). -/
def alu8 (op : AluOp) (a v : Byte) (cin : Bool) : AluOut :=
  match op with
  | .add => add8 a v
  | .adc => adc8 a v cin
  | .sub => sub8 a v
  | .sbc => sbc8 a v cin
  | .and => and8 a v
  | .xor => xor8 a v
  | .or => or8 a v
  | .cp => sub8 a v

/-- The amount `DAA` adds or subtracts (R198): both additive tests look at the original `a`, the
subtractive branch only at the flags. -/
def daaAdjust (a : Byte) (n h c : Bool) : Byte :=
  if n then
    (if h then 0x06#8 else 0#8) + (if c then 0x60#8 else 0#8)
  else
    (if h ∨ a.toNat % 16 > 0x09 then 0x06#8 else 0#8) + (if c ∨ a.toNat > 0x99 then 0x60#8 else 0#8)

/-- `DAA` (R198): `N` is kept, `H` cleared, `C` set or kept, `Z` from the result. -/
def daa8 (a : Byte) (n h c : Bool) : AluOut :=
  let adj := daaAdjust a n h c
  let res := if n then a - adj else a + adj
  { res := res, z := res == 0#8, n := n, h := false
    c := if n then c else c || decide (a.toNat > 0x99) }

/-! ## Rotates and shifts -/

/-- A bit as a byte: 0 or 1. -/
def bitByte (b : Bool) : Byte := if b then 1#8 else 0#8

/-- The result of a rotate or shift (47_cb_prefixed.md R342, column `res`). -/
def shiftRes (op : ShiftOp) (v : Byte) (cin : Bool) : Byte :=
  match op with
  | .rlc => v <<< 1 ||| bitByte (v.getLsbD 7)
  | .rrc => v >>> 1 ||| bitByte (v.getLsbD 0) <<< 7
  | .rl => v <<< 1 ||| bitByte cin
  | .rr => v >>> 1 ||| bitByte cin <<< 7
  | .sla => v <<< 1
  | .sra => v >>> 1 ||| v &&& 0x80#8
  | .swap => (v &&& 0x0F#8) <<< 4 ||| v >>> 4
  | .srl => v >>> 1

/-- The carry of a rotate or shift (R342, column `c`). -/
def shiftCarry (op : ShiftOp) (v : Byte) : Bool :=
  match op with
  | .rlc => v.getLsbD 7
  | .rrc => v.getLsbD 0
  | .rl => v.getLsbD 7
  | .rr => v.getLsbD 0
  | .sla => v.getLsbD 7
  | .sra => v.getLsbD 0
  | .swap => false
  | .srl => v.getLsbD 0

/-! ## The bit operations -/

/-- `v & ~(1 << b)` (R338). -/
def resetBit (b : Oct) (v : Byte) : Byte := v &&& ~~~(1#8 <<< b.toNat)

/-- `v | (1 << b)` (R340). -/
def setBit (b : Oct) (v : Byte) : Byte := v ||| 1#8 <<< b.toNat

/-! ## 16-bit arithmetic -/

/-- The half carry of `ADD HL,rr` (42_alu16.md R210): out of bit 11. -/
def addHLHalf (hl v : Word) : Bool := decide (hl.toNat % 4096 + v.toNat % 4096 > 0xFFF)

/-- The carry of `ADD HL,rr` (R210): out of bit 15. -/
def addHLCarry (hl v : Word) : Bool := decide (hl.toNat + v.toNat > 0xFFFF)

/-- The sum of `sp_offset(sp, e)` (R214): `e` sign-extended (00_scope.md R7). -/
def spOffset (sp : Word) (e : Byte) : Word := sp + e.signExtend 16

/-- The half carry of `sp_offset` (R214): of the unsigned low bytes, out of bit 3. -/
def spOffsetHalf (sp : Word) (e : Byte) : Bool := decide (sp.toNat % 16 + e.toNat % 16 > 0xF)

/-- The carry of `sp_offset` (R214): of the unsigned low bytes, out of bit 7. -/
def spOffsetCarry (sp : Word) (e : Byte) : Bool := decide (sp.toNat % 256 + e.toNat > 0xFF)

end Sys2Proof.Machine
end

