-- ==== Sys2Proof/Machine/Operands.lean ====
section
/-! DEFINITION. The operand forms (30_encoding.md R92 to R96) and the conditions (45_control_flow.md
R280). -/

namespace Sys2Proof.Machine

/-- A read of an 8-bit operand: a register, or the byte at `HL` (30_encoding.md R92). -/
def State.operand (s : State) : Operand8 → Byte
  | .reg r => s.reg r
  | .mHL => s.memRead s.hl

/-- A write of an 8-bit operand: a register, or the byte at `HL` (R92). -/
def State.setOperand (s : State) (o : Operand8) (v : Byte) : State :=
  match o with
  | .reg r => s.setReg r v
  | .mHL => s.memWrite s.hl v

/-- `cond(cc)` (45_control_flow.md R280). -/
def State.cond (s : State) : Cond → Bool
  | .nz => !s.flagZ
  | .z => s.flagZ
  | .nc => !s.flagC
  | .c => s.flagC

/-- The address `0xFF00 + o` of `LDH` and of `(C)` (43_load8.md R233, R235). -/
def pageFF (o : Byte) : Word := 0xFF00#16 + o.zeroExtend 16

/-- The target of a relative jump (45_control_flow.md R283): `next` plus the signed offset. -/
def relTarget (nxt : Word) (e : Byte) : Word := nxt + e.signExtend 16

/-- The target of `RST` (R290): eight times the field. -/
def rstTarget (y : Oct) : Word := BitVec.ofNat 16 (8 * y.toNat)

end Sys2Proof.Machine
end

