-- ==== Sys2Proof/Machine/Alu8.lean ====
section
/-! DEFINITION. The 8-bit ALU instructions (41_alu8.md R170 to R205). -/

namespace Sys2Proof.Machine

/-! ## The shared operations -/

/-- An ALU operation on `A` and a value (R170 to R193): `A` and the flags are written, by `CP` only the
flags (R191). -/
def aluValue (op : AluOp) (v : Byte) (s : State) : State :=
  let o := alu8 op s.a v s.flagC
  match op with
  | .cp => s.setFlags o.z o.n o.h o.c
  | _ => { s with a := o.res }.setFlags o.z o.n o.h o.c

/-- The one-byte forms: the operand is a register or the byte at `HL` (R170, R171). -/
def aluOperand (op : AluOp) (r : Operand8) (s : State) : State :=
  aluValue op (s.operand r) (s.advance 1)

/-- The two-byte forms: the operand is the immediate (R172). -/
def aluImmediate (op : AluOp) (d8 : Byte) (s : State) : State := aluValue op d8 (s.advance 2)

/-- `INC` of a register or of the byte at `HL` (R194, R195). -/
def incOperand (r : Operand8) (s : State) : State :=
  let o := inc8 (s.operand r) s.flagC
  ((s.advance 1).setOperand r o.res).setFlags o.z o.n o.h o.c

/-- `DEC` of a register or of the byte at `HL` (R196, R197). -/
def decOperand (r : Operand8) (s : State) : State :=
  let o := dec8 (s.operand r) s.flagC
  ((s.advance 1).setOperand r o.res).setFlags o.z o.n o.h o.c

/-- `DAA` (R198). -/
def daaA (s : State) : State :=
  let o := daa8 s.a s.flagN s.flagH s.flagC
  { s.advance 1 with a := o.res }.setFlags o.z o.n o.h o.c

/-- The accumulator rotates (R202 to R205): `Z`, `N` and `H` are cleared whatever the result. -/
def rotateA (op : ShiftOp) (s : State) : State :=
  { s.advance 1 with a := shiftRes op s.a s.flagC }.setFlags false false false (shiftCarry op s.a)

/-! ## The instructions -/

/-- `INC B` (R194). -/
def exec_inc_B (s : State) : StepResult :=
  .next (incOperand (.reg .b) s)

/-- `DEC B` (R196). -/
def exec_dec_B (s : State) : StepResult :=
  .next (decOperand (.reg .b) s)

/-- `RLCA` (R202). -/
def exec_rlca (s : State) : StepResult :=
  .next (rotateA .rlc s)

/-- `INC C` (R194). -/
def exec_inc_C (s : State) : StepResult :=
  .next (incOperand (.reg .c) s)

/-- `DEC C` (R196). -/
def exec_dec_C (s : State) : StepResult :=
  .next (decOperand (.reg .c) s)

/-- `RRCA` (R204). -/
def exec_rrca (s : State) : StepResult :=
  .next (rotateA .rrc s)

/-- `INC D` (R194). -/
def exec_inc_D (s : State) : StepResult :=
  .next (incOperand (.reg .d) s)

/-- `DEC D` (R196). -/
def exec_dec_D (s : State) : StepResult :=
  .next (decOperand (.reg .d) s)

/-- `RLA` (R203). -/
def exec_rla (s : State) : StepResult :=
  .next (rotateA .rl s)

/-- `INC E` (R194). -/
def exec_inc_E (s : State) : StepResult :=
  .next (incOperand (.reg .e) s)

/-- `DEC E` (R196). -/
def exec_dec_E (s : State) : StepResult :=
  .next (decOperand (.reg .e) s)

/-- `RRA` (R205). -/
def exec_rra (s : State) : StepResult :=
  .next (rotateA .rr s)

/-- `INC H` (R194). -/
def exec_inc_H (s : State) : StepResult :=
  .next (incOperand (.reg .h) s)

/-- `DEC H` (R196). -/
def exec_dec_H (s : State) : StepResult :=
  .next (decOperand (.reg .h) s)

/-- `DAA` (R198). -/
def exec_daa (s : State) : StepResult :=
  .next (daaA s)

/-- `INC L` (R194). -/
def exec_inc_L (s : State) : StepResult :=
  .next (incOperand (.reg .l) s)

/-- `DEC L` (R196). -/
def exec_dec_L (s : State) : StepResult :=
  .next (decOperand (.reg .l) s)

/-- `CPL` (R199): `Z` and `C` are kept. -/
def exec_cpl (s : State) : StepResult :=
  .next ({ s.advance 1 with a := ~~~s.a }.setFlags s.flagZ true true s.flagC)

/-- `INC (HL)` (R195). -/
def exec_inc_mHL (s : State) : StepResult :=
  .next (incOperand .mHL s)

/-- `DEC (HL)` (R197). -/
def exec_dec_mHL (s : State) : StepResult :=
  .next (decOperand .mHL s)

/-- `SCF` (R200): `Z` is kept. -/
def exec_scf (s : State) : StepResult :=
  .next ((s.advance 1).setFlags s.flagZ false false true)

/-- `INC A` (R194). -/
def exec_inc_A (s : State) : StepResult :=
  .next (incOperand (.reg .a) s)

/-- `DEC A` (R196). -/
def exec_dec_A (s : State) : StepResult :=
  .next (decOperand (.reg .a) s)

/-- `CCF` (R201): `Z` is kept. -/
def exec_ccf (s : State) : StepResult :=
  .next ((s.advance 1).setFlags s.flagZ false false (!s.flagC))

/-- `ADD A,B` (R170). -/
def exec_add_A_B (s : State) : StepResult :=
  .next (aluOperand .add (.reg .b) s)

/-- `ADD A,C` (R170). -/
def exec_add_A_C (s : State) : StepResult :=
  .next (aluOperand .add (.reg .c) s)

/-- `ADD A,D` (R170). -/
def exec_add_A_D (s : State) : StepResult :=
  .next (aluOperand .add (.reg .d) s)

/-- `ADD A,E` (R170). -/
def exec_add_A_E (s : State) : StepResult :=
  .next (aluOperand .add (.reg .e) s)

/-- `ADD A,H` (R170). -/
def exec_add_A_H (s : State) : StepResult :=
  .next (aluOperand .add (.reg .h) s)

/-- `ADD A,L` (R170). -/
def exec_add_A_L (s : State) : StepResult :=
  .next (aluOperand .add (.reg .l) s)

/-- `ADD A,(HL)` (R171). -/
def exec_add_A_mHL (s : State) : StepResult :=
  .next (aluOperand .add .mHL s)

/-- `ADD A,A` (R170). -/
def exec_add_A_A (s : State) : StepResult :=
  .next (aluOperand .add (.reg .a) s)

/-- `ADC A,B` (R173). -/
def exec_adc_A_B (s : State) : StepResult :=
  .next (aluOperand .adc (.reg .b) s)

/-- `ADC A,C` (R173). -/
def exec_adc_A_C (s : State) : StepResult :=
  .next (aluOperand .adc (.reg .c) s)

/-- `ADC A,D` (R173). -/
def exec_adc_A_D (s : State) : StepResult :=
  .next (aluOperand .adc (.reg .d) s)

/-- `ADC A,E` (R173). -/
def exec_adc_A_E (s : State) : StepResult :=
  .next (aluOperand .adc (.reg .e) s)

/-- `ADC A,H` (R173). -/
def exec_adc_A_H (s : State) : StepResult :=
  .next (aluOperand .adc (.reg .h) s)

/-- `ADC A,L` (R173). -/
def exec_adc_A_L (s : State) : StepResult :=
  .next (aluOperand .adc (.reg .l) s)

/-- `ADC A,(HL)` (R174). -/
def exec_adc_A_mHL (s : State) : StepResult :=
  .next (aluOperand .adc .mHL s)

/-- `ADC A,A` (R173). -/
def exec_adc_A_A (s : State) : StepResult :=
  .next (aluOperand .adc (.reg .a) s)

/-- `SUB B` (R176). -/
def exec_sub_B (s : State) : StepResult :=
  .next (aluOperand .sub (.reg .b) s)

/-- `SUB C` (R176). -/
def exec_sub_C (s : State) : StepResult :=
  .next (aluOperand .sub (.reg .c) s)

/-- `SUB D` (R176). -/
def exec_sub_D (s : State) : StepResult :=
  .next (aluOperand .sub (.reg .d) s)

/-- `SUB E` (R176). -/
def exec_sub_E (s : State) : StepResult :=
  .next (aluOperand .sub (.reg .e) s)

/-- `SUB H` (R176). -/
def exec_sub_H (s : State) : StepResult :=
  .next (aluOperand .sub (.reg .h) s)

/-- `SUB L` (R176). -/
def exec_sub_L (s : State) : StepResult :=
  .next (aluOperand .sub (.reg .l) s)

/-- `SUB (HL)` (R177). -/
def exec_sub_mHL (s : State) : StepResult :=
  .next (aluOperand .sub .mHL s)

/-- `SUB A` (R176). -/
def exec_sub_A (s : State) : StepResult :=
  .next (aluOperand .sub (.reg .a) s)

/-- `SBC A,B` (R179). -/
def exec_sbc_A_B (s : State) : StepResult :=
  .next (aluOperand .sbc (.reg .b) s)

/-- `SBC A,C` (R179). -/
def exec_sbc_A_C (s : State) : StepResult :=
  .next (aluOperand .sbc (.reg .c) s)

/-- `SBC A,D` (R179). -/
def exec_sbc_A_D (s : State) : StepResult :=
  .next (aluOperand .sbc (.reg .d) s)

/-- `SBC A,E` (R179). -/
def exec_sbc_A_E (s : State) : StepResult :=
  .next (aluOperand .sbc (.reg .e) s)

/-- `SBC A,H` (R179). -/
def exec_sbc_A_H (s : State) : StepResult :=
  .next (aluOperand .sbc (.reg .h) s)

/-- `SBC A,L` (R179). -/
def exec_sbc_A_L (s : State) : StepResult :=
  .next (aluOperand .sbc (.reg .l) s)

/-- `SBC A,(HL)` (R180). -/
def exec_sbc_A_mHL (s : State) : StepResult :=
  .next (aluOperand .sbc .mHL s)

/-- `SBC A,A` (R179). -/
def exec_sbc_A_A (s : State) : StepResult :=
  .next (aluOperand .sbc (.reg .a) s)

/-- `AND B` (R182). -/
def exec_and_B (s : State) : StepResult :=
  .next (aluOperand .and (.reg .b) s)

/-- `AND C` (R182). -/
def exec_and_C (s : State) : StepResult :=
  .next (aluOperand .and (.reg .c) s)

/-- `AND D` (R182). -/
def exec_and_D (s : State) : StepResult :=
  .next (aluOperand .and (.reg .d) s)

/-- `AND E` (R182). -/
def exec_and_E (s : State) : StepResult :=
  .next (aluOperand .and (.reg .e) s)

/-- `AND H` (R182). -/
def exec_and_H (s : State) : StepResult :=
  .next (aluOperand .and (.reg .h) s)

/-- `AND L` (R182). -/
def exec_and_L (s : State) : StepResult :=
  .next (aluOperand .and (.reg .l) s)

/-- `AND (HL)` (R183). -/
def exec_and_mHL (s : State) : StepResult :=
  .next (aluOperand .and .mHL s)

/-- `AND A` (R182). -/
def exec_and_A (s : State) : StepResult :=
  .next (aluOperand .and (.reg .a) s)

/-- `XOR B` (R185). -/
def exec_xor_B (s : State) : StepResult :=
  .next (aluOperand .xor (.reg .b) s)

/-- `XOR C` (R185). -/
def exec_xor_C (s : State) : StepResult :=
  .next (aluOperand .xor (.reg .c) s)

/-- `XOR D` (R185). -/
def exec_xor_D (s : State) : StepResult :=
  .next (aluOperand .xor (.reg .d) s)

/-- `XOR E` (R185). -/
def exec_xor_E (s : State) : StepResult :=
  .next (aluOperand .xor (.reg .e) s)

/-- `XOR H` (R185). -/
def exec_xor_H (s : State) : StepResult :=
  .next (aluOperand .xor (.reg .h) s)

/-- `XOR L` (R185). -/
def exec_xor_L (s : State) : StepResult :=
  .next (aluOperand .xor (.reg .l) s)

/-- `XOR (HL)` (R186). -/
def exec_xor_mHL (s : State) : StepResult :=
  .next (aluOperand .xor .mHL s)

/-- `XOR A` (R185). -/
def exec_xor_A (s : State) : StepResult :=
  .next (aluOperand .xor (.reg .a) s)

/-- `OR B` (R188). -/
def exec_or_B (s : State) : StepResult :=
  .next (aluOperand .or (.reg .b) s)

/-- `OR C` (R188). -/
def exec_or_C (s : State) : StepResult :=
  .next (aluOperand .or (.reg .c) s)

/-- `OR D` (R188). -/
def exec_or_D (s : State) : StepResult :=
  .next (aluOperand .or (.reg .d) s)

/-- `OR E` (R188). -/
def exec_or_E (s : State) : StepResult :=
  .next (aluOperand .or (.reg .e) s)

/-- `OR H` (R188). -/
def exec_or_H (s : State) : StepResult :=
  .next (aluOperand .or (.reg .h) s)

/-- `OR L` (R188). -/
def exec_or_L (s : State) : StepResult :=
  .next (aluOperand .or (.reg .l) s)

/-- `OR (HL)` (R189). -/
def exec_or_mHL (s : State) : StepResult :=
  .next (aluOperand .or .mHL s)

/-- `OR A` (R188). -/
def exec_or_A (s : State) : StepResult :=
  .next (aluOperand .or (.reg .a) s)

/-- `CP B` (R191). -/
def exec_cp_B (s : State) : StepResult :=
  .next (aluOperand .cp (.reg .b) s)

/-- `CP C` (R191). -/
def exec_cp_C (s : State) : StepResult :=
  .next (aluOperand .cp (.reg .c) s)

/-- `CP D` (R191). -/
def exec_cp_D (s : State) : StepResult :=
  .next (aluOperand .cp (.reg .d) s)

/-- `CP E` (R191). -/
def exec_cp_E (s : State) : StepResult :=
  .next (aluOperand .cp (.reg .e) s)

/-- `CP H` (R191). -/
def exec_cp_H (s : State) : StepResult :=
  .next (aluOperand .cp (.reg .h) s)

/-- `CP L` (R191). -/
def exec_cp_L (s : State) : StepResult :=
  .next (aluOperand .cp (.reg .l) s)

/-- `CP (HL)` (R192). -/
def exec_cp_mHL (s : State) : StepResult :=
  .next (aluOperand .cp .mHL s)

/-- `CP A` (R191). -/
def exec_cp_A (s : State) : StepResult :=
  .next (aluOperand .cp (.reg .a) s)

/-- `ADD A,d8` (R172). -/
def exec_add_A_d8 (d8 : Byte) (s : State) : StepResult :=
  .next (aluImmediate .add d8 s)

/-- `ADC A,d8` (R175). -/
def exec_adc_A_d8 (d8 : Byte) (s : State) : StepResult :=
  .next (aluImmediate .adc d8 s)

/-- `SUB d8` (R178). -/
def exec_sub_d8 (d8 : Byte) (s : State) : StepResult :=
  .next (aluImmediate .sub d8 s)

/-- `SBC A,d8` (R181). -/
def exec_sbc_A_d8 (d8 : Byte) (s : State) : StepResult :=
  .next (aluImmediate .sbc d8 s)

/-- `AND d8` (R184). -/
def exec_and_d8 (d8 : Byte) (s : State) : StepResult :=
  .next (aluImmediate .and d8 s)

/-- `XOR d8` (R187). -/
def exec_xor_d8 (d8 : Byte) (s : State) : StepResult :=
  .next (aluImmediate .xor d8 s)

/-- `OR d8` (R190). -/
def exec_or_d8 (d8 : Byte) (s : State) : StepResult :=
  .next (aluImmediate .or d8 s)

/-- `CP d8` (R193). -/
def exec_cp_d8 (d8 : Byte) (s : State) : StepResult :=
  .next (aluImmediate .cp d8 s)

end Sys2Proof.Machine
end

