-- ==== Sys2Proof/Machine/Cb.lean ====
section
/-! DEFINITION. The CB-prefixed instructions (47_cb_prefixed.md R320 to R342). -/

namespace Sys2Proof.Machine

/-! ## The shared operations -/

/-- A rotate or shift of a register or of the byte at `HL` (R320 to R335, R342). -/
def shiftOperand (op : ShiftOp) (r : Operand8) (s : State) : State :=
  let res := shiftRes op (s.operand r) s.flagC
  ((s.advance 2).setOperand r res).setFlags (res == 0#8) false false (shiftCarry op (s.operand r))

/-- `BIT b` (R336, R337): `Z` is the complement of the bit, `C` is kept. -/
def testOperand (b : Oct) (r : Operand8) (s : State) : State :=
  (s.advance 2).setFlags (!(s.operand r).getLsbD b.toNat) false true s.flagC

/-- `RES b` (R338, R339). -/
def resetOperand (b : Oct) (r : Operand8) (s : State) : State :=
  (s.advance 2).setOperand r (resetBit b (s.operand r))

/-- `SET b` (R340, R341). -/
def setOperandBit (b : Oct) (r : Operand8) (s : State) : State :=
  (s.advance 2).setOperand r (setBit b (s.operand r))

/-! ## The instructions -/

/-- `RLC B` (R320). -/
def exec_rlc_B (s : State) : StepResult :=
  .next (shiftOperand .rlc (.reg .b) s)

/-- `RLC C` (R320). -/
def exec_rlc_C (s : State) : StepResult :=
  .next (shiftOperand .rlc (.reg .c) s)

/-- `RLC D` (R320). -/
def exec_rlc_D (s : State) : StepResult :=
  .next (shiftOperand .rlc (.reg .d) s)

/-- `RLC E` (R320). -/
def exec_rlc_E (s : State) : StepResult :=
  .next (shiftOperand .rlc (.reg .e) s)

/-- `RLC H` (R320). -/
def exec_rlc_H (s : State) : StepResult :=
  .next (shiftOperand .rlc (.reg .h) s)

/-- `RLC L` (R320). -/
def exec_rlc_L (s : State) : StepResult :=
  .next (shiftOperand .rlc (.reg .l) s)

/-- `RLC (HL)` (R321). -/
def exec_rlc_mHL (s : State) : StepResult :=
  .next (shiftOperand .rlc .mHL s)

/-- `RLC A` (R320). -/
def exec_rlc_A (s : State) : StepResult :=
  .next (shiftOperand .rlc (.reg .a) s)

/-- `RRC B` (R322). -/
def exec_rrc_B (s : State) : StepResult :=
  .next (shiftOperand .rrc (.reg .b) s)

/-- `RRC C` (R322). -/
def exec_rrc_C (s : State) : StepResult :=
  .next (shiftOperand .rrc (.reg .c) s)

/-- `RRC D` (R322). -/
def exec_rrc_D (s : State) : StepResult :=
  .next (shiftOperand .rrc (.reg .d) s)

/-- `RRC E` (R322). -/
def exec_rrc_E (s : State) : StepResult :=
  .next (shiftOperand .rrc (.reg .e) s)

/-- `RRC H` (R322). -/
def exec_rrc_H (s : State) : StepResult :=
  .next (shiftOperand .rrc (.reg .h) s)

/-- `RRC L` (R322). -/
def exec_rrc_L (s : State) : StepResult :=
  .next (shiftOperand .rrc (.reg .l) s)

/-- `RRC (HL)` (R323). -/
def exec_rrc_mHL (s : State) : StepResult :=
  .next (shiftOperand .rrc .mHL s)

/-- `RRC A` (R322). -/
def exec_rrc_A (s : State) : StepResult :=
  .next (shiftOperand .rrc (.reg .a) s)

/-- `RL B` (R324). -/
def exec_rl_B (s : State) : StepResult :=
  .next (shiftOperand .rl (.reg .b) s)

/-- `RL C` (R324). -/
def exec_rl_C (s : State) : StepResult :=
  .next (shiftOperand .rl (.reg .c) s)

/-- `RL D` (R324). -/
def exec_rl_D (s : State) : StepResult :=
  .next (shiftOperand .rl (.reg .d) s)

/-- `RL E` (R324). -/
def exec_rl_E (s : State) : StepResult :=
  .next (shiftOperand .rl (.reg .e) s)

/-- `RL H` (R324). -/
def exec_rl_H (s : State) : StepResult :=
  .next (shiftOperand .rl (.reg .h) s)

/-- `RL L` (R324). -/
def exec_rl_L (s : State) : StepResult :=
  .next (shiftOperand .rl (.reg .l) s)

/-- `RL (HL)` (R325). -/
def exec_rl_mHL (s : State) : StepResult :=
  .next (shiftOperand .rl .mHL s)

/-- `RL A` (R324). -/
def exec_rl_A (s : State) : StepResult :=
  .next (shiftOperand .rl (.reg .a) s)

/-- `RR B` (R326). -/
def exec_rr_B (s : State) : StepResult :=
  .next (shiftOperand .rr (.reg .b) s)

/-- `RR C` (R326). -/
def exec_rr_C (s : State) : StepResult :=
  .next (shiftOperand .rr (.reg .c) s)

/-- `RR D` (R326). -/
def exec_rr_D (s : State) : StepResult :=
  .next (shiftOperand .rr (.reg .d) s)

/-- `RR E` (R326). -/
def exec_rr_E (s : State) : StepResult :=
  .next (shiftOperand .rr (.reg .e) s)

/-- `RR H` (R326). -/
def exec_rr_H (s : State) : StepResult :=
  .next (shiftOperand .rr (.reg .h) s)

/-- `RR L` (R326). -/
def exec_rr_L (s : State) : StepResult :=
  .next (shiftOperand .rr (.reg .l) s)

/-- `RR (HL)` (R327). -/
def exec_rr_mHL (s : State) : StepResult :=
  .next (shiftOperand .rr .mHL s)

/-- `RR A` (R326). -/
def exec_rr_A (s : State) : StepResult :=
  .next (shiftOperand .rr (.reg .a) s)

/-- `SLA B` (R328). -/
def exec_sla_B (s : State) : StepResult :=
  .next (shiftOperand .sla (.reg .b) s)

/-- `SLA C` (R328). -/
def exec_sla_C (s : State) : StepResult :=
  .next (shiftOperand .sla (.reg .c) s)

/-- `SLA D` (R328). -/
def exec_sla_D (s : State) : StepResult :=
  .next (shiftOperand .sla (.reg .d) s)

/-- `SLA E` (R328). -/
def exec_sla_E (s : State) : StepResult :=
  .next (shiftOperand .sla (.reg .e) s)

/-- `SLA H` (R328). -/
def exec_sla_H (s : State) : StepResult :=
  .next (shiftOperand .sla (.reg .h) s)

/-- `SLA L` (R328). -/
def exec_sla_L (s : State) : StepResult :=
  .next (shiftOperand .sla (.reg .l) s)

/-- `SLA (HL)` (R329). -/
def exec_sla_mHL (s : State) : StepResult :=
  .next (shiftOperand .sla .mHL s)

/-- `SLA A` (R328). -/
def exec_sla_A (s : State) : StepResult :=
  .next (shiftOperand .sla (.reg .a) s)

/-- `SRA B` (R330). -/
def exec_sra_B (s : State) : StepResult :=
  .next (shiftOperand .sra (.reg .b) s)

/-- `SRA C` (R330). -/
def exec_sra_C (s : State) : StepResult :=
  .next (shiftOperand .sra (.reg .c) s)

/-- `SRA D` (R330). -/
def exec_sra_D (s : State) : StepResult :=
  .next (shiftOperand .sra (.reg .d) s)

/-- `SRA E` (R330). -/
def exec_sra_E (s : State) : StepResult :=
  .next (shiftOperand .sra (.reg .e) s)

/-- `SRA H` (R330). -/
def exec_sra_H (s : State) : StepResult :=
  .next (shiftOperand .sra (.reg .h) s)

/-- `SRA L` (R330). -/
def exec_sra_L (s : State) : StepResult :=
  .next (shiftOperand .sra (.reg .l) s)

/-- `SRA (HL)` (R331). -/
def exec_sra_mHL (s : State) : StepResult :=
  .next (shiftOperand .sra .mHL s)

/-- `SRA A` (R330). -/
def exec_sra_A (s : State) : StepResult :=
  .next (shiftOperand .sra (.reg .a) s)

/-- `SWAP B` (R332). -/
def exec_swap_B (s : State) : StepResult :=
  .next (shiftOperand .swap (.reg .b) s)

/-- `SWAP C` (R332). -/
def exec_swap_C (s : State) : StepResult :=
  .next (shiftOperand .swap (.reg .c) s)

/-- `SWAP D` (R332). -/
def exec_swap_D (s : State) : StepResult :=
  .next (shiftOperand .swap (.reg .d) s)

/-- `SWAP E` (R332). -/
def exec_swap_E (s : State) : StepResult :=
  .next (shiftOperand .swap (.reg .e) s)

/-- `SWAP H` (R332). -/
def exec_swap_H (s : State) : StepResult :=
  .next (shiftOperand .swap (.reg .h) s)

/-- `SWAP L` (R332). -/
def exec_swap_L (s : State) : StepResult :=
  .next (shiftOperand .swap (.reg .l) s)

/-- `SWAP (HL)` (R333). -/
def exec_swap_mHL (s : State) : StepResult :=
  .next (shiftOperand .swap .mHL s)

/-- `SWAP A` (R332). -/
def exec_swap_A (s : State) : StepResult :=
  .next (shiftOperand .swap (.reg .a) s)

/-- `SRL B` (R334). -/
def exec_srl_B (s : State) : StepResult :=
  .next (shiftOperand .srl (.reg .b) s)

/-- `SRL C` (R334). -/
def exec_srl_C (s : State) : StepResult :=
  .next (shiftOperand .srl (.reg .c) s)

/-- `SRL D` (R334). -/
def exec_srl_D (s : State) : StepResult :=
  .next (shiftOperand .srl (.reg .d) s)

/-- `SRL E` (R334). -/
def exec_srl_E (s : State) : StepResult :=
  .next (shiftOperand .srl (.reg .e) s)

/-- `SRL H` (R334). -/
def exec_srl_H (s : State) : StepResult :=
  .next (shiftOperand .srl (.reg .h) s)

/-- `SRL L` (R334). -/
def exec_srl_L (s : State) : StepResult :=
  .next (shiftOperand .srl (.reg .l) s)

/-- `SRL (HL)` (R335). -/
def exec_srl_mHL (s : State) : StepResult :=
  .next (shiftOperand .srl .mHL s)

/-- `SRL A` (R334). -/
def exec_srl_A (s : State) : StepResult :=
  .next (shiftOperand .srl (.reg .a) s)

/-- `BIT 0,B` (R336). -/
def exec_bit_0_B (s : State) : StepResult :=
  .next (testOperand .o0 (.reg .b) s)

/-- `BIT 0,C` (R336). -/
def exec_bit_0_C (s : State) : StepResult :=
  .next (testOperand .o0 (.reg .c) s)

/-- `BIT 0,D` (R336). -/
def exec_bit_0_D (s : State) : StepResult :=
  .next (testOperand .o0 (.reg .d) s)

/-- `BIT 0,E` (R336). -/
def exec_bit_0_E (s : State) : StepResult :=
  .next (testOperand .o0 (.reg .e) s)

/-- `BIT 0,H` (R336). -/
def exec_bit_0_H (s : State) : StepResult :=
  .next (testOperand .o0 (.reg .h) s)

/-- `BIT 0,L` (R336). -/
def exec_bit_0_L (s : State) : StepResult :=
  .next (testOperand .o0 (.reg .l) s)

/-- `BIT 0,(HL)` (R337). -/
def exec_bit_0_mHL (s : State) : StepResult :=
  .next (testOperand .o0 .mHL s)

/-- `BIT 0,A` (R336). -/
def exec_bit_0_A (s : State) : StepResult :=
  .next (testOperand .o0 (.reg .a) s)

/-- `BIT 1,B` (R336). -/
def exec_bit_1_B (s : State) : StepResult :=
  .next (testOperand .o1 (.reg .b) s)

/-- `BIT 1,C` (R336). -/
def exec_bit_1_C (s : State) : StepResult :=
  .next (testOperand .o1 (.reg .c) s)

/-- `BIT 1,D` (R336). -/
def exec_bit_1_D (s : State) : StepResult :=
  .next (testOperand .o1 (.reg .d) s)

/-- `BIT 1,E` (R336). -/
def exec_bit_1_E (s : State) : StepResult :=
  .next (testOperand .o1 (.reg .e) s)

/-- `BIT 1,H` (R336). -/
def exec_bit_1_H (s : State) : StepResult :=
  .next (testOperand .o1 (.reg .h) s)

/-- `BIT 1,L` (R336). -/
def exec_bit_1_L (s : State) : StepResult :=
  .next (testOperand .o1 (.reg .l) s)

/-- `BIT 1,(HL)` (R337). -/
def exec_bit_1_mHL (s : State) : StepResult :=
  .next (testOperand .o1 .mHL s)

/-- `BIT 1,A` (R336). -/
def exec_bit_1_A (s : State) : StepResult :=
  .next (testOperand .o1 (.reg .a) s)

/-- `BIT 2,B` (R336). -/
def exec_bit_2_B (s : State) : StepResult :=
  .next (testOperand .o2 (.reg .b) s)

/-- `BIT 2,C` (R336). -/
def exec_bit_2_C (s : State) : StepResult :=
  .next (testOperand .o2 (.reg .c) s)

/-- `BIT 2,D` (R336). -/
def exec_bit_2_D (s : State) : StepResult :=
  .next (testOperand .o2 (.reg .d) s)

/-- `BIT 2,E` (R336). -/
def exec_bit_2_E (s : State) : StepResult :=
  .next (testOperand .o2 (.reg .e) s)

/-- `BIT 2,H` (R336). -/
def exec_bit_2_H (s : State) : StepResult :=
  .next (testOperand .o2 (.reg .h) s)

/-- `BIT 2,L` (R336). -/
def exec_bit_2_L (s : State) : StepResult :=
  .next (testOperand .o2 (.reg .l) s)

/-- `BIT 2,(HL)` (R337). -/
def exec_bit_2_mHL (s : State) : StepResult :=
  .next (testOperand .o2 .mHL s)

/-- `BIT 2,A` (R336). -/
def exec_bit_2_A (s : State) : StepResult :=
  .next (testOperand .o2 (.reg .a) s)

/-- `BIT 3,B` (R336). -/
def exec_bit_3_B (s : State) : StepResult :=
  .next (testOperand .o3 (.reg .b) s)

/-- `BIT 3,C` (R336). -/
def exec_bit_3_C (s : State) : StepResult :=
  .next (testOperand .o3 (.reg .c) s)

/-- `BIT 3,D` (R336). -/
def exec_bit_3_D (s : State) : StepResult :=
  .next (testOperand .o3 (.reg .d) s)

/-- `BIT 3,E` (R336). -/
def exec_bit_3_E (s : State) : StepResult :=
  .next (testOperand .o3 (.reg .e) s)

/-- `BIT 3,H` (R336). -/
def exec_bit_3_H (s : State) : StepResult :=
  .next (testOperand .o3 (.reg .h) s)

/-- `BIT 3,L` (R336). -/
def exec_bit_3_L (s : State) : StepResult :=
  .next (testOperand .o3 (.reg .l) s)

/-- `BIT 3,(HL)` (R337). -/
def exec_bit_3_mHL (s : State) : StepResult :=
  .next (testOperand .o3 .mHL s)

/-- `BIT 3,A` (R336). -/
def exec_bit_3_A (s : State) : StepResult :=
  .next (testOperand .o3 (.reg .a) s)

/-- `BIT 4,B` (R336). -/
def exec_bit_4_B (s : State) : StepResult :=
  .next (testOperand .o4 (.reg .b) s)

/-- `BIT 4,C` (R336). -/
def exec_bit_4_C (s : State) : StepResult :=
  .next (testOperand .o4 (.reg .c) s)

/-- `BIT 4,D` (R336). -/
def exec_bit_4_D (s : State) : StepResult :=
  .next (testOperand .o4 (.reg .d) s)

/-- `BIT 4,E` (R336). -/
def exec_bit_4_E (s : State) : StepResult :=
  .next (testOperand .o4 (.reg .e) s)

/-- `BIT 4,H` (R336). -/
def exec_bit_4_H (s : State) : StepResult :=
  .next (testOperand .o4 (.reg .h) s)

/-- `BIT 4,L` (R336). -/
def exec_bit_4_L (s : State) : StepResult :=
  .next (testOperand .o4 (.reg .l) s)

/-- `BIT 4,(HL)` (R337). -/
def exec_bit_4_mHL (s : State) : StepResult :=
  .next (testOperand .o4 .mHL s)

/-- `BIT 4,A` (R336). -/
def exec_bit_4_A (s : State) : StepResult :=
  .next (testOperand .o4 (.reg .a) s)

/-- `BIT 5,B` (R336). -/
def exec_bit_5_B (s : State) : StepResult :=
  .next (testOperand .o5 (.reg .b) s)

/-- `BIT 5,C` (R336). -/
def exec_bit_5_C (s : State) : StepResult :=
  .next (testOperand .o5 (.reg .c) s)

/-- `BIT 5,D` (R336). -/
def exec_bit_5_D (s : State) : StepResult :=
  .next (testOperand .o5 (.reg .d) s)

/-- `BIT 5,E` (R336). -/
def exec_bit_5_E (s : State) : StepResult :=
  .next (testOperand .o5 (.reg .e) s)

/-- `BIT 5,H` (R336). -/
def exec_bit_5_H (s : State) : StepResult :=
  .next (testOperand .o5 (.reg .h) s)

/-- `BIT 5,L` (R336). -/
def exec_bit_5_L (s : State) : StepResult :=
  .next (testOperand .o5 (.reg .l) s)

/-- `BIT 5,(HL)` (R337). -/
def exec_bit_5_mHL (s : State) : StepResult :=
  .next (testOperand .o5 .mHL s)

/-- `BIT 5,A` (R336). -/
def exec_bit_5_A (s : State) : StepResult :=
  .next (testOperand .o5 (.reg .a) s)

/-- `BIT 6,B` (R336). -/
def exec_bit_6_B (s : State) : StepResult :=
  .next (testOperand .o6 (.reg .b) s)

/-- `BIT 6,C` (R336). -/
def exec_bit_6_C (s : State) : StepResult :=
  .next (testOperand .o6 (.reg .c) s)

/-- `BIT 6,D` (R336). -/
def exec_bit_6_D (s : State) : StepResult :=
  .next (testOperand .o6 (.reg .d) s)

/-- `BIT 6,E` (R336). -/
def exec_bit_6_E (s : State) : StepResult :=
  .next (testOperand .o6 (.reg .e) s)

/-- `BIT 6,H` (R336). -/
def exec_bit_6_H (s : State) : StepResult :=
  .next (testOperand .o6 (.reg .h) s)

/-- `BIT 6,L` (R336). -/
def exec_bit_6_L (s : State) : StepResult :=
  .next (testOperand .o6 (.reg .l) s)

/-- `BIT 6,(HL)` (R337). -/
def exec_bit_6_mHL (s : State) : StepResult :=
  .next (testOperand .o6 .mHL s)

/-- `BIT 6,A` (R336). -/
def exec_bit_6_A (s : State) : StepResult :=
  .next (testOperand .o6 (.reg .a) s)

/-- `BIT 7,B` (R336). -/
def exec_bit_7_B (s : State) : StepResult :=
  .next (testOperand .o7 (.reg .b) s)

/-- `BIT 7,C` (R336). -/
def exec_bit_7_C (s : State) : StepResult :=
  .next (testOperand .o7 (.reg .c) s)

/-- `BIT 7,D` (R336). -/
def exec_bit_7_D (s : State) : StepResult :=
  .next (testOperand .o7 (.reg .d) s)

/-- `BIT 7,E` (R336). -/
def exec_bit_7_E (s : State) : StepResult :=
  .next (testOperand .o7 (.reg .e) s)

/-- `BIT 7,H` (R336). -/
def exec_bit_7_H (s : State) : StepResult :=
  .next (testOperand .o7 (.reg .h) s)

/-- `BIT 7,L` (R336). -/
def exec_bit_7_L (s : State) : StepResult :=
  .next (testOperand .o7 (.reg .l) s)

/-- `BIT 7,(HL)` (R337). -/
def exec_bit_7_mHL (s : State) : StepResult :=
  .next (testOperand .o7 .mHL s)

/-- `BIT 7,A` (R336). -/
def exec_bit_7_A (s : State) : StepResult :=
  .next (testOperand .o7 (.reg .a) s)

/-- `RES 0,B` (R338). -/
def exec_res_0_B (s : State) : StepResult :=
  .next (resetOperand .o0 (.reg .b) s)

/-- `RES 0,C` (R338). -/
def exec_res_0_C (s : State) : StepResult :=
  .next (resetOperand .o0 (.reg .c) s)

/-- `RES 0,D` (R338). -/
def exec_res_0_D (s : State) : StepResult :=
  .next (resetOperand .o0 (.reg .d) s)

/-- `RES 0,E` (R338). -/
def exec_res_0_E (s : State) : StepResult :=
  .next (resetOperand .o0 (.reg .e) s)

/-- `RES 0,H` (R338). -/
def exec_res_0_H (s : State) : StepResult :=
  .next (resetOperand .o0 (.reg .h) s)

/-- `RES 0,L` (R338). -/
def exec_res_0_L (s : State) : StepResult :=
  .next (resetOperand .o0 (.reg .l) s)

/-- `RES 0,(HL)` (R339). -/
def exec_res_0_mHL (s : State) : StepResult :=
  .next (resetOperand .o0 .mHL s)

/-- `RES 0,A` (R338). -/
def exec_res_0_A (s : State) : StepResult :=
  .next (resetOperand .o0 (.reg .a) s)

/-- `RES 1,B` (R338). -/
def exec_res_1_B (s : State) : StepResult :=
  .next (resetOperand .o1 (.reg .b) s)

/-- `RES 1,C` (R338). -/
def exec_res_1_C (s : State) : StepResult :=
  .next (resetOperand .o1 (.reg .c) s)

/-- `RES 1,D` (R338). -/
def exec_res_1_D (s : State) : StepResult :=
  .next (resetOperand .o1 (.reg .d) s)

/-- `RES 1,E` (R338). -/
def exec_res_1_E (s : State) : StepResult :=
  .next (resetOperand .o1 (.reg .e) s)

/-- `RES 1,H` (R338). -/
def exec_res_1_H (s : State) : StepResult :=
  .next (resetOperand .o1 (.reg .h) s)

/-- `RES 1,L` (R338). -/
def exec_res_1_L (s : State) : StepResult :=
  .next (resetOperand .o1 (.reg .l) s)

/-- `RES 1,(HL)` (R339). -/
def exec_res_1_mHL (s : State) : StepResult :=
  .next (resetOperand .o1 .mHL s)

/-- `RES 1,A` (R338). -/
def exec_res_1_A (s : State) : StepResult :=
  .next (resetOperand .o1 (.reg .a) s)

/-- `RES 2,B` (R338). -/
def exec_res_2_B (s : State) : StepResult :=
  .next (resetOperand .o2 (.reg .b) s)

/-- `RES 2,C` (R338). -/
def exec_res_2_C (s : State) : StepResult :=
  .next (resetOperand .o2 (.reg .c) s)

/-- `RES 2,D` (R338). -/
def exec_res_2_D (s : State) : StepResult :=
  .next (resetOperand .o2 (.reg .d) s)

/-- `RES 2,E` (R338). -/
def exec_res_2_E (s : State) : StepResult :=
  .next (resetOperand .o2 (.reg .e) s)

/-- `RES 2,H` (R338). -/
def exec_res_2_H (s : State) : StepResult :=
  .next (resetOperand .o2 (.reg .h) s)

/-- `RES 2,L` (R338). -/
def exec_res_2_L (s : State) : StepResult :=
  .next (resetOperand .o2 (.reg .l) s)

/-- `RES 2,(HL)` (R339). -/
def exec_res_2_mHL (s : State) : StepResult :=
  .next (resetOperand .o2 .mHL s)

/-- `RES 2,A` (R338). -/
def exec_res_2_A (s : State) : StepResult :=
  .next (resetOperand .o2 (.reg .a) s)

/-- `RES 3,B` (R338). -/
def exec_res_3_B (s : State) : StepResult :=
  .next (resetOperand .o3 (.reg .b) s)

/-- `RES 3,C` (R338). -/
def exec_res_3_C (s : State) : StepResult :=
  .next (resetOperand .o3 (.reg .c) s)

/-- `RES 3,D` (R338). -/
def exec_res_3_D (s : State) : StepResult :=
  .next (resetOperand .o3 (.reg .d) s)

/-- `RES 3,E` (R338). -/
def exec_res_3_E (s : State) : StepResult :=
  .next (resetOperand .o3 (.reg .e) s)

/-- `RES 3,H` (R338). -/
def exec_res_3_H (s : State) : StepResult :=
  .next (resetOperand .o3 (.reg .h) s)

/-- `RES 3,L` (R338). -/
def exec_res_3_L (s : State) : StepResult :=
  .next (resetOperand .o3 (.reg .l) s)

/-- `RES 3,(HL)` (R339). -/
def exec_res_3_mHL (s : State) : StepResult :=
  .next (resetOperand .o3 .mHL s)

/-- `RES 3,A` (R338). -/
def exec_res_3_A (s : State) : StepResult :=
  .next (resetOperand .o3 (.reg .a) s)

/-- `RES 4,B` (R338). -/
def exec_res_4_B (s : State) : StepResult :=
  .next (resetOperand .o4 (.reg .b) s)

/-- `RES 4,C` (R338). -/
def exec_res_4_C (s : State) : StepResult :=
  .next (resetOperand .o4 (.reg .c) s)

/-- `RES 4,D` (R338). -/
def exec_res_4_D (s : State) : StepResult :=
  .next (resetOperand .o4 (.reg .d) s)

/-- `RES 4,E` (R338). -/
def exec_res_4_E (s : State) : StepResult :=
  .next (resetOperand .o4 (.reg .e) s)

/-- `RES 4,H` (R338). -/
def exec_res_4_H (s : State) : StepResult :=
  .next (resetOperand .o4 (.reg .h) s)

/-- `RES 4,L` (R338). -/
def exec_res_4_L (s : State) : StepResult :=
  .next (resetOperand .o4 (.reg .l) s)

/-- `RES 4,(HL)` (R339). -/
def exec_res_4_mHL (s : State) : StepResult :=
  .next (resetOperand .o4 .mHL s)

/-- `RES 4,A` (R338). -/
def exec_res_4_A (s : State) : StepResult :=
  .next (resetOperand .o4 (.reg .a) s)

/-- `RES 5,B` (R338). -/
def exec_res_5_B (s : State) : StepResult :=
  .next (resetOperand .o5 (.reg .b) s)

/-- `RES 5,C` (R338). -/
def exec_res_5_C (s : State) : StepResult :=
  .next (resetOperand .o5 (.reg .c) s)

/-- `RES 5,D` (R338). -/
def exec_res_5_D (s : State) : StepResult :=
  .next (resetOperand .o5 (.reg .d) s)

/-- `RES 5,E` (R338). -/
def exec_res_5_E (s : State) : StepResult :=
  .next (resetOperand .o5 (.reg .e) s)

/-- `RES 5,H` (R338). -/
def exec_res_5_H (s : State) : StepResult :=
  .next (resetOperand .o5 (.reg .h) s)

/-- `RES 5,L` (R338). -/
def exec_res_5_L (s : State) : StepResult :=
  .next (resetOperand .o5 (.reg .l) s)

/-- `RES 5,(HL)` (R339). -/
def exec_res_5_mHL (s : State) : StepResult :=
  .next (resetOperand .o5 .mHL s)

/-- `RES 5,A` (R338). -/
def exec_res_5_A (s : State) : StepResult :=
  .next (resetOperand .o5 (.reg .a) s)

/-- `RES 6,B` (R338). -/
def exec_res_6_B (s : State) : StepResult :=
  .next (resetOperand .o6 (.reg .b) s)

/-- `RES 6,C` (R338). -/
def exec_res_6_C (s : State) : StepResult :=
  .next (resetOperand .o6 (.reg .c) s)

/-- `RES 6,D` (R338). -/
def exec_res_6_D (s : State) : StepResult :=
  .next (resetOperand .o6 (.reg .d) s)

/-- `RES 6,E` (R338). -/
def exec_res_6_E (s : State) : StepResult :=
  .next (resetOperand .o6 (.reg .e) s)

/-- `RES 6,H` (R338). -/
def exec_res_6_H (s : State) : StepResult :=
  .next (resetOperand .o6 (.reg .h) s)

/-- `RES 6,L` (R338). -/
def exec_res_6_L (s : State) : StepResult :=
  .next (resetOperand .o6 (.reg .l) s)

/-- `RES 6,(HL)` (R339). -/
def exec_res_6_mHL (s : State) : StepResult :=
  .next (resetOperand .o6 .mHL s)

/-- `RES 6,A` (R338). -/
def exec_res_6_A (s : State) : StepResult :=
  .next (resetOperand .o6 (.reg .a) s)

/-- `RES 7,B` (R338). -/
def exec_res_7_B (s : State) : StepResult :=
  .next (resetOperand .o7 (.reg .b) s)

/-- `RES 7,C` (R338). -/
def exec_res_7_C (s : State) : StepResult :=
  .next (resetOperand .o7 (.reg .c) s)

/-- `RES 7,D` (R338). -/
def exec_res_7_D (s : State) : StepResult :=
  .next (resetOperand .o7 (.reg .d) s)

/-- `RES 7,E` (R338). -/
def exec_res_7_E (s : State) : StepResult :=
  .next (resetOperand .o7 (.reg .e) s)

/-- `RES 7,H` (R338). -/
def exec_res_7_H (s : State) : StepResult :=
  .next (resetOperand .o7 (.reg .h) s)

/-- `RES 7,L` (R338). -/
def exec_res_7_L (s : State) : StepResult :=
  .next (resetOperand .o7 (.reg .l) s)

/-- `RES 7,(HL)` (R339). -/
def exec_res_7_mHL (s : State) : StepResult :=
  .next (resetOperand .o7 .mHL s)

/-- `RES 7,A` (R338). -/
def exec_res_7_A (s : State) : StepResult :=
  .next (resetOperand .o7 (.reg .a) s)

/-- `SET 0,B` (R340). -/
def exec_set_0_B (s : State) : StepResult :=
  .next (setOperandBit .o0 (.reg .b) s)

/-- `SET 0,C` (R340). -/
def exec_set_0_C (s : State) : StepResult :=
  .next (setOperandBit .o0 (.reg .c) s)

/-- `SET 0,D` (R340). -/
def exec_set_0_D (s : State) : StepResult :=
  .next (setOperandBit .o0 (.reg .d) s)

/-- `SET 0,E` (R340). -/
def exec_set_0_E (s : State) : StepResult :=
  .next (setOperandBit .o0 (.reg .e) s)

/-- `SET 0,H` (R340). -/
def exec_set_0_H (s : State) : StepResult :=
  .next (setOperandBit .o0 (.reg .h) s)

/-- `SET 0,L` (R340). -/
def exec_set_0_L (s : State) : StepResult :=
  .next (setOperandBit .o0 (.reg .l) s)

/-- `SET 0,(HL)` (R341). -/
def exec_set_0_mHL (s : State) : StepResult :=
  .next (setOperandBit .o0 .mHL s)

/-- `SET 0,A` (R340). -/
def exec_set_0_A (s : State) : StepResult :=
  .next (setOperandBit .o0 (.reg .a) s)

/-- `SET 1,B` (R340). -/
def exec_set_1_B (s : State) : StepResult :=
  .next (setOperandBit .o1 (.reg .b) s)

/-- `SET 1,C` (R340). -/
def exec_set_1_C (s : State) : StepResult :=
  .next (setOperandBit .o1 (.reg .c) s)

/-- `SET 1,D` (R340). -/
def exec_set_1_D (s : State) : StepResult :=
  .next (setOperandBit .o1 (.reg .d) s)

/-- `SET 1,E` (R340). -/
def exec_set_1_E (s : State) : StepResult :=
  .next (setOperandBit .o1 (.reg .e) s)

/-- `SET 1,H` (R340). -/
def exec_set_1_H (s : State) : StepResult :=
  .next (setOperandBit .o1 (.reg .h) s)

/-- `SET 1,L` (R340). -/
def exec_set_1_L (s : State) : StepResult :=
  .next (setOperandBit .o1 (.reg .l) s)

/-- `SET 1,(HL)` (R341). -/
def exec_set_1_mHL (s : State) : StepResult :=
  .next (setOperandBit .o1 .mHL s)

/-- `SET 1,A` (R340). -/
def exec_set_1_A (s : State) : StepResult :=
  .next (setOperandBit .o1 (.reg .a) s)

/-- `SET 2,B` (R340). -/
def exec_set_2_B (s : State) : StepResult :=
  .next (setOperandBit .o2 (.reg .b) s)

/-- `SET 2,C` (R340). -/
def exec_set_2_C (s : State) : StepResult :=
  .next (setOperandBit .o2 (.reg .c) s)

/-- `SET 2,D` (R340). -/
def exec_set_2_D (s : State) : StepResult :=
  .next (setOperandBit .o2 (.reg .d) s)

/-- `SET 2,E` (R340). -/
def exec_set_2_E (s : State) : StepResult :=
  .next (setOperandBit .o2 (.reg .e) s)

/-- `SET 2,H` (R340). -/
def exec_set_2_H (s : State) : StepResult :=
  .next (setOperandBit .o2 (.reg .h) s)

/-- `SET 2,L` (R340). -/
def exec_set_2_L (s : State) : StepResult :=
  .next (setOperandBit .o2 (.reg .l) s)

/-- `SET 2,(HL)` (R341). -/
def exec_set_2_mHL (s : State) : StepResult :=
  .next (setOperandBit .o2 .mHL s)

/-- `SET 2,A` (R340). -/
def exec_set_2_A (s : State) : StepResult :=
  .next (setOperandBit .o2 (.reg .a) s)

/-- `SET 3,B` (R340). -/
def exec_set_3_B (s : State) : StepResult :=
  .next (setOperandBit .o3 (.reg .b) s)

/-- `SET 3,C` (R340). -/
def exec_set_3_C (s : State) : StepResult :=
  .next (setOperandBit .o3 (.reg .c) s)

/-- `SET 3,D` (R340). -/
def exec_set_3_D (s : State) : StepResult :=
  .next (setOperandBit .o3 (.reg .d) s)

/-- `SET 3,E` (R340). -/
def exec_set_3_E (s : State) : StepResult :=
  .next (setOperandBit .o3 (.reg .e) s)

/-- `SET 3,H` (R340). -/
def exec_set_3_H (s : State) : StepResult :=
  .next (setOperandBit .o3 (.reg .h) s)

/-- `SET 3,L` (R340). -/
def exec_set_3_L (s : State) : StepResult :=
  .next (setOperandBit .o3 (.reg .l) s)

/-- `SET 3,(HL)` (R341). -/
def exec_set_3_mHL (s : State) : StepResult :=
  .next (setOperandBit .o3 .mHL s)

/-- `SET 3,A` (R340). -/
def exec_set_3_A (s : State) : StepResult :=
  .next (setOperandBit .o3 (.reg .a) s)

/-- `SET 4,B` (R340). -/
def exec_set_4_B (s : State) : StepResult :=
  .next (setOperandBit .o4 (.reg .b) s)

/-- `SET 4,C` (R340). -/
def exec_set_4_C (s : State) : StepResult :=
  .next (setOperandBit .o4 (.reg .c) s)

/-- `SET 4,D` (R340). -/
def exec_set_4_D (s : State) : StepResult :=
  .next (setOperandBit .o4 (.reg .d) s)

/-- `SET 4,E` (R340). -/
def exec_set_4_E (s : State) : StepResult :=
  .next (setOperandBit .o4 (.reg .e) s)

/-- `SET 4,H` (R340). -/
def exec_set_4_H (s : State) : StepResult :=
  .next (setOperandBit .o4 (.reg .h) s)

/-- `SET 4,L` (R340). -/
def exec_set_4_L (s : State) : StepResult :=
  .next (setOperandBit .o4 (.reg .l) s)

/-- `SET 4,(HL)` (R341). -/
def exec_set_4_mHL (s : State) : StepResult :=
  .next (setOperandBit .o4 .mHL s)

/-- `SET 4,A` (R340). -/
def exec_set_4_A (s : State) : StepResult :=
  .next (setOperandBit .o4 (.reg .a) s)

/-- `SET 5,B` (R340). -/
def exec_set_5_B (s : State) : StepResult :=
  .next (setOperandBit .o5 (.reg .b) s)

/-- `SET 5,C` (R340). -/
def exec_set_5_C (s : State) : StepResult :=
  .next (setOperandBit .o5 (.reg .c) s)

/-- `SET 5,D` (R340). -/
def exec_set_5_D (s : State) : StepResult :=
  .next (setOperandBit .o5 (.reg .d) s)

/-- `SET 5,E` (R340). -/
def exec_set_5_E (s : State) : StepResult :=
  .next (setOperandBit .o5 (.reg .e) s)

/-- `SET 5,H` (R340). -/
def exec_set_5_H (s : State) : StepResult :=
  .next (setOperandBit .o5 (.reg .h) s)

/-- `SET 5,L` (R340). -/
def exec_set_5_L (s : State) : StepResult :=
  .next (setOperandBit .o5 (.reg .l) s)

/-- `SET 5,(HL)` (R341). -/
def exec_set_5_mHL (s : State) : StepResult :=
  .next (setOperandBit .o5 .mHL s)

/-- `SET 5,A` (R340). -/
def exec_set_5_A (s : State) : StepResult :=
  .next (setOperandBit .o5 (.reg .a) s)

/-- `SET 6,B` (R340). -/
def exec_set_6_B (s : State) : StepResult :=
  .next (setOperandBit .o6 (.reg .b) s)

/-- `SET 6,C` (R340). -/
def exec_set_6_C (s : State) : StepResult :=
  .next (setOperandBit .o6 (.reg .c) s)

/-- `SET 6,D` (R340). -/
def exec_set_6_D (s : State) : StepResult :=
  .next (setOperandBit .o6 (.reg .d) s)

/-- `SET 6,E` (R340). -/
def exec_set_6_E (s : State) : StepResult :=
  .next (setOperandBit .o6 (.reg .e) s)

/-- `SET 6,H` (R340). -/
def exec_set_6_H (s : State) : StepResult :=
  .next (setOperandBit .o6 (.reg .h) s)

/-- `SET 6,L` (R340). -/
def exec_set_6_L (s : State) : StepResult :=
  .next (setOperandBit .o6 (.reg .l) s)

/-- `SET 6,(HL)` (R341). -/
def exec_set_6_mHL (s : State) : StepResult :=
  .next (setOperandBit .o6 .mHL s)

/-- `SET 6,A` (R340). -/
def exec_set_6_A (s : State) : StepResult :=
  .next (setOperandBit .o6 (.reg .a) s)

/-- `SET 7,B` (R340). -/
def exec_set_7_B (s : State) : StepResult :=
  .next (setOperandBit .o7 (.reg .b) s)

/-- `SET 7,C` (R340). -/
def exec_set_7_C (s : State) : StepResult :=
  .next (setOperandBit .o7 (.reg .c) s)

/-- `SET 7,D` (R340). -/
def exec_set_7_D (s : State) : StepResult :=
  .next (setOperandBit .o7 (.reg .d) s)

/-- `SET 7,E` (R340). -/
def exec_set_7_E (s : State) : StepResult :=
  .next (setOperandBit .o7 (.reg .e) s)

/-- `SET 7,H` (R340). -/
def exec_set_7_H (s : State) : StepResult :=
  .next (setOperandBit .o7 (.reg .h) s)

/-- `SET 7,L` (R340). -/
def exec_set_7_L (s : State) : StepResult :=
  .next (setOperandBit .o7 (.reg .l) s)

/-- `SET 7,(HL)` (R341). -/
def exec_set_7_mHL (s : State) : StepResult :=
  .next (setOperandBit .o7 .mHL s)

/-- `SET 7,A` (R340). -/
def exec_set_7_A (s : State) : StepResult :=
  .next (setOperandBit .o7 (.reg .a) s)

end Sys2Proof.Machine
end

