-- ==== Sys2Proof/Machine/Control.lean ====
section
/-! DEFINITION. The control transfers (45_control_flow.md R280 to R291). -/

namespace Sys2Proof.Machine

/-! ## The shared operations -/

/-- `JP` (R281, R282): the target, or `next`. -/
def jumpIf (taken : Bool) (a16 : Word) (s : State) : State :=
  let t := s.advance 3
  if taken then { t with pc := a16 } else t

/-- `JR` (R283, R284): `next` plus the offset, or `next`. -/
def relJumpIf (taken : Bool) (e8 : Byte) (s : State) : State :=
  let t := s.advance 2
  if taken then { t with pc := relTarget t.pc e8 } else t

/-- `CALL` (R285, R286): `next` is pushed and control goes to the target, or nothing is pushed. -/
def callIf (taken : Bool) (a16 : Word) (s : State) : State :=
  let t := s.advance 3
  if taken then { t.push16 t.pc with pc := a16 } else t

/-- `RET` (R287, R288): `PC` is popped, or the stack is left alone. -/
def returnIf (taken : Bool) (s : State) : State :=
  let t := s.advance 1
  if taken then t.returnPop else t

/-- `RST` (R290): `next` is pushed and control goes to a fixed address. -/
def restart (y : Oct) (s : State) : State :=
  let t := s.advance 1
  { t.push16 t.pc with pc := rstTarget y }

/-! ## The instructions -/

/-- `JR e8` (R283). -/
def exec_jr_e8 (e8 : Byte) (s : State) : StepResult :=
  .next (relJumpIf true e8 s)

/-- `JR NZ,e8` (R284). -/
def exec_jr_NZ_e8 (e8 : Byte) (s : State) : StepResult :=
  .next (relJumpIf (s.cond .nz) e8 s)

/-- `JR Z,e8` (R284). -/
def exec_jr_Z_e8 (e8 : Byte) (s : State) : StepResult :=
  .next (relJumpIf (s.cond .z) e8 s)

/-- `JR NC,e8` (R284). -/
def exec_jr_NC_e8 (e8 : Byte) (s : State) : StepResult :=
  .next (relJumpIf (s.cond .nc) e8 s)

/-- `JR C,e8` (R284). -/
def exec_jr_C_e8 (e8 : Byte) (s : State) : StepResult :=
  .next (relJumpIf (s.cond .c) e8 s)

/-- `RET NZ` (R288). -/
def exec_ret_NZ (s : State) : StepResult :=
  .next (returnIf (s.cond .nz) s)

/-- `JP NZ,a16` (R282). -/
def exec_jp_NZ_a16 (a16 : Word) (s : State) : StepResult :=
  .next (jumpIf (s.cond .nz) a16 s)

/-- `JP a16` (R281). -/
def exec_jp_a16 (a16 : Word) (s : State) : StepResult :=
  .next (jumpIf true a16 s)

/-- `CALL NZ,a16` (R286). -/
def exec_call_NZ_a16 (a16 : Word) (s : State) : StepResult :=
  .next (callIf (s.cond .nz) a16 s)

/-- `RST 0x00` (R290). -/
def exec_rst_00 (s : State) : StepResult :=
  .next (restart .o0 s)

/-- `RET Z` (R288). -/
def exec_ret_Z (s : State) : StepResult :=
  .next (returnIf (s.cond .z) s)

/-- `RET` (R287). -/
def exec_ret (s : State) : StepResult :=
  .next (returnIf true s)

/-- `JP Z,a16` (R282). -/
def exec_jp_Z_a16 (a16 : Word) (s : State) : StepResult :=
  .next (jumpIf (s.cond .z) a16 s)

/-- `CALL Z,a16` (R286). -/
def exec_call_Z_a16 (a16 : Word) (s : State) : StepResult :=
  .next (callIf (s.cond .z) a16 s)

/-- `CALL a16` (R285). -/
def exec_call_a16 (a16 : Word) (s : State) : StepResult :=
  .next (callIf true a16 s)

/-- `RST 0x08` (R290). -/
def exec_rst_08 (s : State) : StepResult :=
  .next (restart .o1 s)

/-- `RET NC` (R288). -/
def exec_ret_NC (s : State) : StepResult :=
  .next (returnIf (s.cond .nc) s)

/-- `JP NC,a16` (R282). -/
def exec_jp_NC_a16 (a16 : Word) (s : State) : StepResult :=
  .next (jumpIf (s.cond .nc) a16 s)

/-- `CALL NC,a16` (R286). -/
def exec_call_NC_a16 (a16 : Word) (s : State) : StepResult :=
  .next (callIf (s.cond .nc) a16 s)

/-- `RST 0x10` (R290). -/
def exec_rst_10 (s : State) : StepResult :=
  .next (restart .o2 s)

/-- `RET C` (R288). -/
def exec_ret_C (s : State) : StepResult :=
  .next (returnIf (s.cond .c) s)

/-- `RETI` (R291): the enable is immediate and the schedule is not written. -/
def exec_reti (s : State) : StepResult :=
  .next ({ (s.advance 1).returnPop with ime := true })

/-- `JP C,a16` (R282). -/
def exec_jp_C_a16 (a16 : Word) (s : State) : StepResult :=
  .next (jumpIf (s.cond .c) a16 s)

/-- `CALL C,a16` (R286). -/
def exec_call_C_a16 (a16 : Word) (s : State) : StepResult :=
  .next (callIf (s.cond .c) a16 s)

/-- `RST 0x18` (R290). -/
def exec_rst_18 (s : State) : StepResult :=
  .next (restart .o3 s)

/-- `RST 0x20` (R290). -/
def exec_rst_20 (s : State) : StepResult :=
  .next (restart .o4 s)

/-- `JP HL` (R289): the target is the value of `HL`. -/
def exec_jp_HL (s : State) : StepResult :=
  .next ({ s.advance 1 with pc := s.hl })

/-- `RST 0x28` (R290). -/
def exec_rst_28 (s : State) : StepResult :=
  .next (restart .o5 s)

/-- `RST 0x30` (R290). -/
def exec_rst_30 (s : State) : StepResult :=
  .next (restart .o6 s)

/-- `RST 0x38` (R290). -/
def exec_rst_38 (s : State) : StepResult :=
  .next (restart .o7 s)

end Sys2Proof.Machine
end

