-- ==== Sys2Proof/Machine/Alu16.lean ====
section
/-! DEFINITION. The 16-bit arithmetic instructions (42_alu16.md R210 to R214). -/

namespace Sys2Proof.Machine

/-! ## The shared operations -/

/-- `ADD HL,rr` (R210). -/
def addHLPair (p : Pair16) (s : State) : State :=
  ((s.advance 1).setHL (s.hl + s.pair p)).setFlags
    s.flagZ false (addHLHalf s.hl (s.pair p)) (addHLCarry s.hl (s.pair p))

/-- `INC rr` (R211). -/
def incPair (p : Pair16) (s : State) : State := (s.advance 1).setPair p (s.pair p + 1#16)

/-- `DEC rr` (R212). -/
def decPair (p : Pair16) (s : State) : State := (s.advance 1).setPair p (s.pair p - 1#16)

/-- The flags of `sp_offset` (R214). -/
def spOffsetFlags (e8 : Byte) (s : State) (t : State) : State :=
  t.setFlags false false (spOffsetHalf s.sp e8) (spOffsetCarry s.sp e8)

/-! ## The instructions -/

/-- `INC BC` (R211). -/
def exec_inc_BC (s : State) : StepResult :=
  .next (incPair .bc s)

/-- `ADD HL,BC` (R210). -/
def exec_add_HL_BC (s : State) : StepResult :=
  .next (addHLPair .bc s)

/-- `DEC BC` (R212). -/
def exec_dec_BC (s : State) : StepResult :=
  .next (decPair .bc s)

/-- `INC DE` (R211). -/
def exec_inc_DE (s : State) : StepResult :=
  .next (incPair .de s)

/-- `ADD HL,DE` (R210). -/
def exec_add_HL_DE (s : State) : StepResult :=
  .next (addHLPair .de s)

/-- `DEC DE` (R212). -/
def exec_dec_DE (s : State) : StepResult :=
  .next (decPair .de s)

/-- `INC HL` (R211). -/
def exec_inc_HL (s : State) : StepResult :=
  .next (incPair .hl s)

/-- `ADD HL,HL` (R210). -/
def exec_add_HL_HL (s : State) : StepResult :=
  .next (addHLPair .hl s)

/-- `DEC HL` (R212). -/
def exec_dec_HL (s : State) : StepResult :=
  .next (decPair .hl s)

/-- `INC SP` (R211). -/
def exec_inc_SP (s : State) : StepResult :=
  .next (incPair .sp s)

/-- `ADD HL,SP` (R210). -/
def exec_add_HL_SP (s : State) : StepResult :=
  .next (addHLPair .sp s)

/-- `DEC SP` (R212). -/
def exec_dec_SP (s : State) : StepResult :=
  .next (decPair .sp s)

/-- `ADD SP,e8` (R213). -/
def exec_add_SP_e8 (e8 : Byte) (s : State) : StepResult :=
  .next (spOffsetFlags e8 s { s.advance 2 with sp := spOffset s.sp e8 })

end Sys2Proof.Machine
end

