-- ==== Sys2Proof/Machine/Load16.lean ====
section
/-! DEFINITION. The 16-bit loads and the stack instructions (44_load16_stack.md R260 to R268). -/

namespace Sys2Proof.Machine

/-! ## The shared operations -/

/-- `LD rr,d16` (R260). -/
def loadPair (p : Pair16) (d16 : Word) (s : State) : State := (s.advance 3).setPair p d16

/-- `PUSH rr` (R264). -/
def pushPair (p : StackPair) (s : State) : State := (s.advance 1).push16 (s.stackPair p)

/-- `POP rr` (R265). -/
def popPair (p : StackPair) (s : State) : State := (s.advance 1).popped.setStackPair p s.popValue

/-- `MemWrite(addr, 2, v)` (20_memory.md R65): the low byte first, the second address wrapping (R66). -/
def storeWord (addr v : Word) (s : State) : State :=
  (s.memWrite addr (loByte v)).memWrite (addr + 1#16) (hiByte v)

/-! ## The instructions -/

/-- `LD BC,d16` (R260). -/
def exec_ld_BC_d16 (d16 : Word) (s : State) : StepResult :=
  .next (loadPair .bc d16 s)

/-- `LD (a16),SP` (R262). -/
def exec_ld_ma16_SP (a16 : Word) (s : State) : StepResult :=
  .next (storeWord a16 s.sp (s.advance 3))

/-- `LD DE,d16` (R260). -/
def exec_ld_DE_d16 (d16 : Word) (s : State) : StepResult :=
  .next (loadPair .de d16 s)

/-- `LD HL,d16` (R260). -/
def exec_ld_HL_d16 (d16 : Word) (s : State) : StepResult :=
  .next (loadPair .hl d16 s)

/-- `LD SP,d16` (R260). -/
def exec_ld_SP_d16 (d16 : Word) (s : State) : StepResult :=
  .next (loadPair .sp d16 s)

/-- `POP BC` (R265). -/
def exec_pop_BC (s : State) : StepResult :=
  .next (popPair .bc s)

/-- `PUSH BC` (R264). -/
def exec_push_BC (s : State) : StepResult :=
  .next (pushPair .bc s)

/-- `POP DE` (R265). -/
def exec_pop_DE (s : State) : StepResult :=
  .next (popPair .de s)

/-- `PUSH DE` (R264). -/
def exec_push_DE (s : State) : StepResult :=
  .next (pushPair .de s)

/-- `POP HL` (R265). -/
def exec_pop_HL (s : State) : StepResult :=
  .next (popPair .hl s)

/-- `PUSH HL` (R264). -/
def exec_push_HL (s : State) : StepResult :=
  .next (pushPair .hl s)

/-- `POP AF` (R265). -/
def exec_pop_AF (s : State) : StepResult :=
  .next (popPair .af s)

/-- `PUSH AF` (R264). -/
def exec_push_AF (s : State) : StepResult :=
  .next (pushPair .af s)

/-- `LD HL,SP+e8` (R263). -/
def exec_ld_HL_SPe8 (e8 : Byte) (s : State) : StepResult :=
  .next (spOffsetFlags e8 s ((s.advance 2).setHL (spOffset s.sp e8)))

/-- `LD SP,HL` (R261). -/
def exec_ld_SP_HL (s : State) : StepResult :=
  .next ({ s.advance 1 with sp := s.hl })

end Sys2Proof.Machine
end

