-- ==== Sys2Proof/Machine/Load8.lean ====
section
/-! DEFINITION. The 8-bit loads (43_load8.md R220 to R238). No flag is written. -/

namespace Sys2Proof.Machine

/-! ## The shared operations -/

/-- `LD` between a register and a register or the byte at `HL` (R220, R222, R223). -/
def loadOperand (dst src : Operand8) (s : State) : State :=
  (s.advance 1).setOperand dst (s.operand src)

/-- `LD` of an immediate to a register or to the byte at `HL` (R221, R224). -/
def loadImmediate (dst : Operand8) (d8 : Byte) (s : State) : State :=
  (s.advance 2).setOperand dst d8

/-- A load of `A` from an address by an instruction of `n` bytes. -/
def loadAFrom (n : Nat) (addr : Word) (s : State) : State :=
  { s.advance n with a := s.memRead addr }

/-- A store of `A` to an address by an instruction of `n` bytes. -/
def storeATo (n : Nat) (addr : Word) (s : State) : State := (s.advance n).memWrite addr s.a

/-! ## The instructions -/

/-- `LD (BC),A` (R225). -/
def exec_ld_mBC_A (s : State) : StepResult :=
  .next (storeATo 1 s.bc s)

/-- `LD B,d8` (R221). -/
def exec_ld_B_d8 (d8 : Byte) (s : State) : StepResult :=
  .next (loadImmediate (.reg .b) d8 s)

/-- `LD A,(BC)` (R227). -/
def exec_ld_A_mBC (s : State) : StepResult :=
  .next (loadAFrom 1 s.bc s)

/-- `LD C,d8` (R221). -/
def exec_ld_C_d8 (d8 : Byte) (s : State) : StepResult :=
  .next (loadImmediate (.reg .c) d8 s)

/-- `LD (DE),A` (R226). -/
def exec_ld_mDE_A (s : State) : StepResult :=
  .next (storeATo 1 s.de s)

/-- `LD D,d8` (R221). -/
def exec_ld_D_d8 (d8 : Byte) (s : State) : StepResult :=
  .next (loadImmediate (.reg .d) d8 s)

/-- `LD A,(DE)` (R228). -/
def exec_ld_A_mDE (s : State) : StepResult :=
  .next (loadAFrom 1 s.de s)

/-- `LD E,d8` (R221). -/
def exec_ld_E_d8 (d8 : Byte) (s : State) : StepResult :=
  .next (loadImmediate (.reg .e) d8 s)

/-- `LD (HL+),A` (R229). -/
def exec_ld_mHLinc_A (s : State) : StepResult :=
  .next ((storeATo 1 s.hl s).setHL (s.hl + 1#16))

/-- `LD H,d8` (R221). -/
def exec_ld_H_d8 (d8 : Byte) (s : State) : StepResult :=
  .next (loadImmediate (.reg .h) d8 s)

/-- `LD A,(HL+)` (R231). -/
def exec_ld_A_mHLinc (s : State) : StepResult :=
  .next ((loadAFrom 1 s.hl s).setHL (s.hl + 1#16))

/-- `LD L,d8` (R221). -/
def exec_ld_L_d8 (d8 : Byte) (s : State) : StepResult :=
  .next (loadImmediate (.reg .l) d8 s)

/-- `LD (HL-),A` (R230). -/
def exec_ld_mHLdec_A (s : State) : StepResult :=
  .next ((storeATo 1 s.hl s).setHL (s.hl - 1#16))

/-- `LD (HL),d8` (R224). -/
def exec_ld_mHL_d8 (d8 : Byte) (s : State) : StepResult :=
  .next (loadImmediate .mHL d8 s)

/-- `LD A,(HL-)` (R232). -/
def exec_ld_A_mHLdec (s : State) : StepResult :=
  .next ((loadAFrom 1 s.hl s).setHL (s.hl - 1#16))

/-- `LD A,d8` (R221). -/
def exec_ld_A_d8 (d8 : Byte) (s : State) : StepResult :=
  .next (loadImmediate (.reg .a) d8 s)

/-- `LD B,B` (R220). -/
def exec_ld_B_B (s : State) : StepResult :=
  .next (loadOperand (.reg .b) (.reg .b) s)

/-- `LD B,C` (R220). -/
def exec_ld_B_C (s : State) : StepResult :=
  .next (loadOperand (.reg .b) (.reg .c) s)

/-- `LD B,D` (R220). -/
def exec_ld_B_D (s : State) : StepResult :=
  .next (loadOperand (.reg .b) (.reg .d) s)

/-- `LD B,E` (R220). -/
def exec_ld_B_E (s : State) : StepResult :=
  .next (loadOperand (.reg .b) (.reg .e) s)

/-- `LD B,H` (R220). -/
def exec_ld_B_H (s : State) : StepResult :=
  .next (loadOperand (.reg .b) (.reg .h) s)

/-- `LD B,L` (R220). -/
def exec_ld_B_L (s : State) : StepResult :=
  .next (loadOperand (.reg .b) (.reg .l) s)

/-- `LD B,(HL)` (R222). -/
def exec_ld_B_mHL (s : State) : StepResult :=
  .next (loadOperand (.reg .b) .mHL s)

/-- `LD B,A` (R220). -/
def exec_ld_B_A (s : State) : StepResult :=
  .next (loadOperand (.reg .b) (.reg .a) s)

/-- `LD C,B` (R220). -/
def exec_ld_C_B (s : State) : StepResult :=
  .next (loadOperand (.reg .c) (.reg .b) s)

/-- `LD C,C` (R220). -/
def exec_ld_C_C (s : State) : StepResult :=
  .next (loadOperand (.reg .c) (.reg .c) s)

/-- `LD C,D` (R220). -/
def exec_ld_C_D (s : State) : StepResult :=
  .next (loadOperand (.reg .c) (.reg .d) s)

/-- `LD C,E` (R220). -/
def exec_ld_C_E (s : State) : StepResult :=
  .next (loadOperand (.reg .c) (.reg .e) s)

/-- `LD C,H` (R220). -/
def exec_ld_C_H (s : State) : StepResult :=
  .next (loadOperand (.reg .c) (.reg .h) s)

/-- `LD C,L` (R220). -/
def exec_ld_C_L (s : State) : StepResult :=
  .next (loadOperand (.reg .c) (.reg .l) s)

/-- `LD C,(HL)` (R222). -/
def exec_ld_C_mHL (s : State) : StepResult :=
  .next (loadOperand (.reg .c) .mHL s)

/-- `LD C,A` (R220). -/
def exec_ld_C_A (s : State) : StepResult :=
  .next (loadOperand (.reg .c) (.reg .a) s)

/-- `LD D,B` (R220). -/
def exec_ld_D_B (s : State) : StepResult :=
  .next (loadOperand (.reg .d) (.reg .b) s)

/-- `LD D,C` (R220). -/
def exec_ld_D_C (s : State) : StepResult :=
  .next (loadOperand (.reg .d) (.reg .c) s)

/-- `LD D,D` (R220). -/
def exec_ld_D_D (s : State) : StepResult :=
  .next (loadOperand (.reg .d) (.reg .d) s)

/-- `LD D,E` (R220). -/
def exec_ld_D_E (s : State) : StepResult :=
  .next (loadOperand (.reg .d) (.reg .e) s)

/-- `LD D,H` (R220). -/
def exec_ld_D_H (s : State) : StepResult :=
  .next (loadOperand (.reg .d) (.reg .h) s)

/-- `LD D,L` (R220). -/
def exec_ld_D_L (s : State) : StepResult :=
  .next (loadOperand (.reg .d) (.reg .l) s)

/-- `LD D,(HL)` (R222). -/
def exec_ld_D_mHL (s : State) : StepResult :=
  .next (loadOperand (.reg .d) .mHL s)

/-- `LD D,A` (R220). -/
def exec_ld_D_A (s : State) : StepResult :=
  .next (loadOperand (.reg .d) (.reg .a) s)

/-- `LD E,B` (R220). -/
def exec_ld_E_B (s : State) : StepResult :=
  .next (loadOperand (.reg .e) (.reg .b) s)

/-- `LD E,C` (R220). -/
def exec_ld_E_C (s : State) : StepResult :=
  .next (loadOperand (.reg .e) (.reg .c) s)

/-- `LD E,D` (R220). -/
def exec_ld_E_D (s : State) : StepResult :=
  .next (loadOperand (.reg .e) (.reg .d) s)

/-- `LD E,E` (R220). -/
def exec_ld_E_E (s : State) : StepResult :=
  .next (loadOperand (.reg .e) (.reg .e) s)

/-- `LD E,H` (R220). -/
def exec_ld_E_H (s : State) : StepResult :=
  .next (loadOperand (.reg .e) (.reg .h) s)

/-- `LD E,L` (R220). -/
def exec_ld_E_L (s : State) : StepResult :=
  .next (loadOperand (.reg .e) (.reg .l) s)

/-- `LD E,(HL)` (R222). -/
def exec_ld_E_mHL (s : State) : StepResult :=
  .next (loadOperand (.reg .e) .mHL s)

/-- `LD E,A` (R220). -/
def exec_ld_E_A (s : State) : StepResult :=
  .next (loadOperand (.reg .e) (.reg .a) s)

/-- `LD H,B` (R220). -/
def exec_ld_H_B (s : State) : StepResult :=
  .next (loadOperand (.reg .h) (.reg .b) s)

/-- `LD H,C` (R220). -/
def exec_ld_H_C (s : State) : StepResult :=
  .next (loadOperand (.reg .h) (.reg .c) s)

/-- `LD H,D` (R220). -/
def exec_ld_H_D (s : State) : StepResult :=
  .next (loadOperand (.reg .h) (.reg .d) s)

/-- `LD H,E` (R220). -/
def exec_ld_H_E (s : State) : StepResult :=
  .next (loadOperand (.reg .h) (.reg .e) s)

/-- `LD H,H` (R220). -/
def exec_ld_H_H (s : State) : StepResult :=
  .next (loadOperand (.reg .h) (.reg .h) s)

/-- `LD H,L` (R220). -/
def exec_ld_H_L (s : State) : StepResult :=
  .next (loadOperand (.reg .h) (.reg .l) s)

/-- `LD H,(HL)` (R222). -/
def exec_ld_H_mHL (s : State) : StepResult :=
  .next (loadOperand (.reg .h) .mHL s)

/-- `LD H,A` (R220). -/
def exec_ld_H_A (s : State) : StepResult :=
  .next (loadOperand (.reg .h) (.reg .a) s)

/-- `LD L,B` (R220). -/
def exec_ld_L_B (s : State) : StepResult :=
  .next (loadOperand (.reg .l) (.reg .b) s)

/-- `LD L,C` (R220). -/
def exec_ld_L_C (s : State) : StepResult :=
  .next (loadOperand (.reg .l) (.reg .c) s)

/-- `LD L,D` (R220). -/
def exec_ld_L_D (s : State) : StepResult :=
  .next (loadOperand (.reg .l) (.reg .d) s)

/-- `LD L,E` (R220). -/
def exec_ld_L_E (s : State) : StepResult :=
  .next (loadOperand (.reg .l) (.reg .e) s)

/-- `LD L,H` (R220). -/
def exec_ld_L_H (s : State) : StepResult :=
  .next (loadOperand (.reg .l) (.reg .h) s)

/-- `LD L,L` (R220). -/
def exec_ld_L_L (s : State) : StepResult :=
  .next (loadOperand (.reg .l) (.reg .l) s)

/-- `LD L,(HL)` (R222). -/
def exec_ld_L_mHL (s : State) : StepResult :=
  .next (loadOperand (.reg .l) .mHL s)

/-- `LD L,A` (R220). -/
def exec_ld_L_A (s : State) : StepResult :=
  .next (loadOperand (.reg .l) (.reg .a) s)

/-- `LD (HL),B` (R223). -/
def exec_ld_mHL_B (s : State) : StepResult :=
  .next (loadOperand .mHL (.reg .b) s)

/-- `LD (HL),C` (R223). -/
def exec_ld_mHL_C (s : State) : StepResult :=
  .next (loadOperand .mHL (.reg .c) s)

/-- `LD (HL),D` (R223). -/
def exec_ld_mHL_D (s : State) : StepResult :=
  .next (loadOperand .mHL (.reg .d) s)

/-- `LD (HL),E` (R223). -/
def exec_ld_mHL_E (s : State) : StepResult :=
  .next (loadOperand .mHL (.reg .e) s)

/-- `LD (HL),H` (R223). -/
def exec_ld_mHL_H (s : State) : StepResult :=
  .next (loadOperand .mHL (.reg .h) s)

/-- `LD (HL),L` (R223). -/
def exec_ld_mHL_L (s : State) : StepResult :=
  .next (loadOperand .mHL (.reg .l) s)

/-- `LD (HL),A` (R223). -/
def exec_ld_mHL_A (s : State) : StepResult :=
  .next (loadOperand .mHL (.reg .a) s)

/-- `LD A,B` (R220). -/
def exec_ld_A_B (s : State) : StepResult :=
  .next (loadOperand (.reg .a) (.reg .b) s)

/-- `LD A,C` (R220). -/
def exec_ld_A_C (s : State) : StepResult :=
  .next (loadOperand (.reg .a) (.reg .c) s)

/-- `LD A,D` (R220). -/
def exec_ld_A_D (s : State) : StepResult :=
  .next (loadOperand (.reg .a) (.reg .d) s)

/-- `LD A,E` (R220). -/
def exec_ld_A_E (s : State) : StepResult :=
  .next (loadOperand (.reg .a) (.reg .e) s)

/-- `LD A,H` (R220). -/
def exec_ld_A_H (s : State) : StepResult :=
  .next (loadOperand (.reg .a) (.reg .h) s)

/-- `LD A,L` (R220). -/
def exec_ld_A_L (s : State) : StepResult :=
  .next (loadOperand (.reg .a) (.reg .l) s)

/-- `LD A,(HL)` (R222). -/
def exec_ld_A_mHL (s : State) : StepResult :=
  .next (loadOperand (.reg .a) .mHL s)

/-- `LD A,A` (R220). -/
def exec_ld_A_A (s : State) : StepResult :=
  .next (loadOperand (.reg .a) (.reg .a) s)

/-- `LDH (a8),A` (R233). -/
def exec_ldh_ma8_A (a8 : Byte) (s : State) : StepResult :=
  .next (storeATo 2 (pageFF a8) s)

/-- `LD (C),A` (R235). -/
def exec_ld_mC_A (s : State) : StepResult :=
  .next (storeATo 1 (pageFF s.c) s)

/-- `LD (a16),A` (R237). -/
def exec_ld_ma16_A (a16 : Word) (s : State) : StepResult :=
  .next (storeATo 3 a16 s)

/-- `LDH A,(a8)` (R234). -/
def exec_ldh_A_ma8 (a8 : Byte) (s : State) : StepResult :=
  .next (loadAFrom 2 (pageFF a8) s)

/-- `LD A,(C)` (R236). -/
def exec_ld_A_mC (s : State) : StepResult :=
  .next (loadAFrom 1 (pageFF s.c) s)

/-- `LD A,(a16)` (R238). -/
def exec_ld_A_ma16 (a16 : Word) (s : State) : StepResult :=
  .next (loadAFrom 3 a16 s)

end Sys2Proof.Machine
end

