-- ==== Sys2Proof/Machine/System.lean ====
section
/-! DEFINITION. NOP, HALT, EI, DI (46_system.md R310 to R313) and the opcodes that fail to decode
(R314, 30_encoding.md R103). -/

namespace Sys2Proof.Machine

/-- `NOP` (R310). -/
def exec_nop (s : State) : StepResult :=
  .next (s.advance 1)

/-- `0x10` (R314): the decode failure at `PC` (40_step_cycle.md R139). -/
def exec_unmapped_STOP (s : State) : StepResult :=
  .next (s.fail 0x10#8 s.pc false)

/-- `HALT` (R311): cases 1 and 2 halt; case 3, the halt bug, does not. -/
def exec_halt (s : State) : StepResult :=
  .next (
    if s.ime = true ∨ s.pending = 0#5 then { s.advance 1 with halted := true }
    else { s.advance 1 with haltBug := true })

/-- A second byte the CB table leaves unmapped (R103): the decode failure at the cursor
(40_step_cycle.md R139). -/
def exec_prefix_CB (cb : Byte) (s : State) : StepResult :=
  .next (s.fail cb s.cursor true)

/-- An opcode the base table leaves unmapped (30_encoding.md R103): the decode failure at
`PC` (40_step_cycle.md R139). -/
def exec_unmapped (op : Byte) (s : State) : StepResult :=
  .next (s.fail op s.pc false)

/-- `DI` (R313): immediate, and cancels a scheduled enable. -/
def exec_di (s : State) : StepResult :=
  .next ({ s.advance 1 with ime := false, imeScheduled := false })

/-- `EI` (R312): sets the schedule only. -/
def exec_ei (s : State) : StepResult :=
  .next ({ s.advance 1 with imeScheduled := true })

end Sys2Proof.Machine
end

