-- ==== Sys2Proof/Machine/Step.lean ====
section
/-! DEFINITION. One step of the core (40_step_cycle.md R131), and the placing of an instruction at the
fetch. Both call Machine/Ops.lean. -/

namespace Sys2Proof.Machine

/-- `step` (R131). -/
def step (s : State) : Host.Outcome State Fault Refusal := stepWith exec s

/-- `s` with the instruction word `w` of the opcode table stored where the next step fetches (log entry
4); it stands for the environment's loading of a program (70_reset_and_hazards.md R391, R392). -/
def State.withFetchWord (s : State) (nbits w : Nat) : State := s.placeAtFetch (tableBytes nbits w)

end Sys2Proof.Machine
end

