-- ==== Sys2Proof/Machine/Bus.lean ====
section
/-! DEFINITION. The bus accesses of a step in the order the spec gives them (20_memory.md R68, R71, R77). The
state records no history; the accesses are a function of the state a step starts from. -/

namespace Sys2Proof.Machine

/-- One access of one byte (R65). -/
inductive BusAccess where
  | read (addr : Word)
  | write (addr : Word) (v : Byte)
  deriving DecidableEq, Repr

/-- The effect of an access (R61, R62). -/
def State.access (s : State) : BusAccess → State
  | .read _ => s
  | .write a v => s.memWrite a v

/-- The effect of a sequence of accesses, in order (R71). -/
def State.accesses (s : State) (l : List BusAccess) : State := l.foldl State.access s

/-- `push16(v)` (44_load16_stack.md R266). -/
def pushes (s : State) (v : Word) : List BusAccess :=
  [.write (s.sp - 1#16) (hiByte v), .write (s.sp - 2#16) (loByte v)]

/-- `pop16()` (R267). -/
def pops (s : State) : List BusAccess := [.read s.sp, .read (s.sp + 1#16)]

/-- A read and a write of the byte at `HL` (20_memory.md R68). -/
def updates (s : State) (v : Byte) : List BusAccess := [.read s.hl, .write s.hl v]

/-- The data accesses of an instruction executed at `s`, in the order of its rule. -/
def dataAccesses (s : State) : Instr → List BusAccess
  | .ld_ma16_SP a16 => [.write a16 (loByte s.sp), .write (a16 + 1#16) (hiByte s.sp)]
  | .ld_mHL_d8 d8 => [.write s.hl d8]
  | .call_NZ_a16 _ => if s.cond .nz then pushes s (s.next 3) else []
  | .call_Z_a16 _ => if s.cond .z then pushes s (s.next 3) else []
  | .call_a16 _ => pushes s (s.next 3)
  | .call_NC_a16 _ => if s.cond .nc then pushes s (s.next 3) else []
  | .call_C_a16 _ => if s.cond .c then pushes s (s.next 3) else []
  | .ldh_ma8_A a8 => [.write (pageFF a8) s.a]
  | .ld_ma16_A a16 => [.write a16 s.a]
  | .ldh_A_ma8 a8 => [.read (pageFF a8)]
  | .ld_A_ma16 a16 => [.read a16]
  | .ld_mBC_A => [.write s.bc s.a]
  | .ld_A_mBC => [.read s.bc]
  | .ld_mDE_A => [.write s.de s.a]
  | .ld_A_mDE => [.read s.de]
  | .ld_mHLinc_A => [.write s.hl s.a]
  | .ld_A_mHLinc => [.read s.hl]
  | .ld_mHLdec_A => [.write s.hl s.a]
  | .inc_mHL => updates s (inc8 (s.memRead s.hl) s.flagC).res
  | .dec_mHL => updates s (dec8 (s.memRead s.hl) s.flagC).res
  | .ld_A_mHLdec => [.read s.hl]
  | .ld_B_mHL => [.read s.hl]
  | .ld_C_mHL => [.read s.hl]
  | .ld_D_mHL => [.read s.hl]
  | .ld_E_mHL => [.read s.hl]
  | .ld_H_mHL => [.read s.hl]
  | .ld_L_mHL => [.read s.hl]
  | .ld_mHL_B => [.write s.hl (s.reg .b)]
  | .ld_mHL_C => [.write s.hl (s.reg .c)]
  | .ld_mHL_D => [.write s.hl (s.reg .d)]
  | .ld_mHL_E => [.write s.hl (s.reg .e)]
  | .ld_mHL_H => [.write s.hl (s.reg .h)]
  | .ld_mHL_L => [.write s.hl (s.reg .l)]
  | .ld_mHL_A => [.write s.hl (s.reg .a)]
  | .ld_A_mHL => [.read s.hl]
  | .add_A_mHL => [.read s.hl]
  | .adc_A_mHL => [.read s.hl]
  | .sub_mHL => [.read s.hl]
  | .sbc_A_mHL => [.read s.hl]
  | .and_mHL => [.read s.hl]
  | .xor_mHL => [.read s.hl]
  | .or_mHL => [.read s.hl]
  | .cp_mHL => [.read s.hl]
  | .ret_NZ => if s.cond .nz then pops s else []
  | .pop_BC => pops s
  | .push_BC => pushes s (s.stackPair .bc)
  | .rst_00 => pushes s (s.next 1)
  | .ret_Z => if s.cond .z then pops s else []
  | .ret => pops s
  | .rst_08 => pushes s (s.next 1)
  | .ret_NC => if s.cond .nc then pops s else []
  | .pop_DE => pops s
  | .push_DE => pushes s (s.stackPair .de)
  | .rst_10 => pushes s (s.next 1)
  | .ret_C => if s.cond .c then pops s else []
  | .reti => pops s
  | .rst_18 => pushes s (s.next 1)
  | .pop_HL => pops s
  | .ld_mC_A => [.write (pageFF s.c) s.a]
  | .push_HL => pushes s (s.stackPair .hl)
  | .rst_20 => pushes s (s.next 1)
  | .rst_28 => pushes s (s.next 1)
  | .pop_AF => pops s
  | .ld_A_mC => [.read (pageFF s.c)]
  | .push_AF => pushes s (s.stackPair .af)
  | .rst_30 => pushes s (s.next 1)
  | .rst_38 => pushes s (s.next 1)
  | .rlc_mHL => updates s (shiftRes .rlc (s.memRead s.hl) s.flagC)
  | .rrc_mHL => updates s (shiftRes .rrc (s.memRead s.hl) s.flagC)
  | .rl_mHL => updates s (shiftRes .rl (s.memRead s.hl) s.flagC)
  | .rr_mHL => updates s (shiftRes .rr (s.memRead s.hl) s.flagC)
  | .sla_mHL => updates s (shiftRes .sla (s.memRead s.hl) s.flagC)
  | .sra_mHL => updates s (shiftRes .sra (s.memRead s.hl) s.flagC)
  | .swap_mHL => updates s (shiftRes .swap (s.memRead s.hl) s.flagC)
  | .srl_mHL => updates s (shiftRes .srl (s.memRead s.hl) s.flagC)
  | .bit_0_mHL => [.read s.hl]
  | .bit_1_mHL => [.read s.hl]
  | .bit_2_mHL => [.read s.hl]
  | .bit_3_mHL => [.read s.hl]
  | .bit_4_mHL => [.read s.hl]
  | .bit_5_mHL => [.read s.hl]
  | .bit_6_mHL => [.read s.hl]
  | .bit_7_mHL => [.read s.hl]
  | .res_0_mHL => updates s (resetBit .o0 (s.memRead s.hl))
  | .res_1_mHL => updates s (resetBit .o1 (s.memRead s.hl))
  | .res_2_mHL => updates s (resetBit .o2 (s.memRead s.hl))
  | .res_3_mHL => updates s (resetBit .o3 (s.memRead s.hl))
  | .res_4_mHL => updates s (resetBit .o4 (s.memRead s.hl))
  | .res_5_mHL => updates s (resetBit .o5 (s.memRead s.hl))
  | .res_6_mHL => updates s (resetBit .o6 (s.memRead s.hl))
  | .res_7_mHL => updates s (resetBit .o7 (s.memRead s.hl))
  | .set_0_mHL => updates s (setBit .o0 (s.memRead s.hl))
  | .set_1_mHL => updates s (setBit .o1 (s.memRead s.hl))
  | .set_2_mHL => updates s (setBit .o2 (s.memRead s.hl))
  | .set_3_mHL => updates s (setBit .o3 (s.memRead s.hl))
  | .set_4_mHL => updates s (setBit .o4 (s.memRead s.hl))
  | .set_5_mHL => updates s (setBit .o5 (s.memRead s.hl))
  | .set_6_mHL => updates s (setBit .o6 (s.memRead s.hl))
  | .set_7_mHL => updates s (setBit .o7 (s.memRead s.hl))
  | .ld_BC_d16 _ | .ld_B_d8 _ | .ld_C_d8 _ | .ld_DE_d16 _ | .ld_D_d8 _ | .jr_e8 _ | .ld_E_d8 _
  | .jr_NZ_e8 _ | .ld_HL_d16 _ | .ld_H_d8 _ | .jr_Z_e8 _ | .ld_L_d8 _ | .jr_NC_e8 _
  | .ld_SP_d16 _ | .jr_C_e8 _ | .ld_A_d8 _ | .jp_NZ_a16 _ | .jp_a16 _ | .add_A_d8 _ | .jp_Z_a16 _
  | .prefix_CB _ | .adc_A_d8 _ | .jp_NC_a16 _ | .unmapped _ | .sub_d8 _ | .jp_C_a16 _
  | .sbc_A_d8 _ | .and_d8 _ | .add_SP_e8 _ | .xor_d8 _ | .or_d8 _ | .ld_HL_SPe8 _ | .cp_d8 _
  | .nop | .inc_BC | .inc_B | .dec_B | .rlca | .add_HL_BC | .dec_BC | .inc_C | .dec_C | .rrca
  | .unmapped_STOP | .inc_DE | .inc_D | .dec_D | .rla | .add_HL_DE | .dec_DE | .inc_E | .dec_E
  | .rra | .inc_HL | .inc_H | .dec_H | .daa | .add_HL_HL | .dec_HL | .inc_L | .dec_L | .cpl
  | .inc_SP | .scf | .add_HL_SP | .dec_SP | .inc_A | .dec_A | .ccf | .ld_B_B | .ld_B_C | .ld_B_D
  | .ld_B_E | .ld_B_H | .ld_B_L | .ld_B_A | .ld_C_B | .ld_C_C | .ld_C_D | .ld_C_E | .ld_C_H
  | .ld_C_L | .ld_C_A | .ld_D_B | .ld_D_C | .ld_D_D | .ld_D_E | .ld_D_H | .ld_D_L | .ld_D_A
  | .ld_E_B | .ld_E_C | .ld_E_D | .ld_E_E | .ld_E_H | .ld_E_L | .ld_E_A | .ld_H_B | .ld_H_C
  | .ld_H_D | .ld_H_E | .ld_H_H | .ld_H_L | .ld_H_A | .ld_L_B | .ld_L_C | .ld_L_D | .ld_L_E
  | .ld_L_H | .ld_L_L | .ld_L_A | .halt | .ld_A_B | .ld_A_C | .ld_A_D | .ld_A_E | .ld_A_H
  | .ld_A_L | .ld_A_A | .add_A_B | .add_A_C | .add_A_D | .add_A_E | .add_A_H | .add_A_L
  | .add_A_A | .adc_A_B | .adc_A_C | .adc_A_D | .adc_A_E | .adc_A_H | .adc_A_L | .adc_A_A
  | .sub_B | .sub_C | .sub_D | .sub_E | .sub_H | .sub_L | .sub_A | .sbc_A_B | .sbc_A_C | .sbc_A_D
  | .sbc_A_E | .sbc_A_H | .sbc_A_L | .sbc_A_A | .and_B | .and_C | .and_D | .and_E | .and_H
  | .and_L | .and_A | .xor_B | .xor_C | .xor_D | .xor_E | .xor_H | .xor_L | .xor_A | .or_B
  | .or_C | .or_D | .or_E | .or_H | .or_L | .or_A | .cp_B | .cp_C | .cp_D | .cp_E | .cp_H | .cp_L
  | .cp_A | .jp_HL | .di | .ld_SP_HL | .ei | .rlc_B | .rlc_C | .rlc_D | .rlc_E | .rlc_H | .rlc_L
  | .rlc_A | .rrc_B | .rrc_C | .rrc_D | .rrc_E | .rrc_H | .rrc_L | .rrc_A | .rl_B | .rl_C | .rl_D
  | .rl_E | .rl_H | .rl_L | .rl_A | .rr_B | .rr_C | .rr_D | .rr_E | .rr_H | .rr_L | .rr_A
  | .sla_B | .sla_C | .sla_D | .sla_E | .sla_H | .sla_L | .sla_A | .sra_B | .sra_C | .sra_D
  | .sra_E | .sra_H | .sra_L | .sra_A | .swap_B | .swap_C | .swap_D | .swap_E | .swap_H | .swap_L
  | .swap_A | .srl_B | .srl_C | .srl_D | .srl_E | .srl_H | .srl_L | .srl_A | .bit_0_B | .bit_0_C
  | .bit_0_D | .bit_0_E | .bit_0_H | .bit_0_L | .bit_0_A | .bit_1_B | .bit_1_C | .bit_1_D
  | .bit_1_E | .bit_1_H | .bit_1_L | .bit_1_A | .bit_2_B | .bit_2_C | .bit_2_D | .bit_2_E
  | .bit_2_H | .bit_2_L | .bit_2_A | .bit_3_B | .bit_3_C | .bit_3_D | .bit_3_E | .bit_3_H
  | .bit_3_L | .bit_3_A | .bit_4_B | .bit_4_C | .bit_4_D | .bit_4_E | .bit_4_H | .bit_4_L
  | .bit_4_A | .bit_5_B | .bit_5_C | .bit_5_D | .bit_5_E | .bit_5_H | .bit_5_L | .bit_5_A
  | .bit_6_B | .bit_6_C | .bit_6_D | .bit_6_E | .bit_6_H | .bit_6_L | .bit_6_A | .bit_7_B
  | .bit_7_C | .bit_7_D | .bit_7_E | .bit_7_H | .bit_7_L | .bit_7_A | .res_0_B | .res_0_C
  | .res_0_D | .res_0_E | .res_0_H | .res_0_L | .res_0_A | .res_1_B | .res_1_C | .res_1_D
  | .res_1_E | .res_1_H | .res_1_L | .res_1_A | .res_2_B | .res_2_C | .res_2_D | .res_2_E
  | .res_2_H | .res_2_L | .res_2_A | .res_3_B | .res_3_C | .res_3_D | .res_3_E | .res_3_H
  | .res_3_L | .res_3_A | .res_4_B | .res_4_C | .res_4_D | .res_4_E | .res_4_H | .res_4_L
  | .res_4_A | .res_5_B | .res_5_C | .res_5_D | .res_5_E | .res_5_H | .res_5_L | .res_5_A
  | .res_6_B | .res_6_C | .res_6_D | .res_6_E | .res_6_H | .res_6_L | .res_6_A | .res_7_B
  | .res_7_C | .res_7_D | .res_7_E | .res_7_H | .res_7_L | .res_7_A | .set_0_B | .set_0_C
  | .set_0_D | .set_0_E | .set_0_H | .set_0_L | .set_0_A | .set_1_B | .set_1_C | .set_1_D
  | .set_1_E | .set_1_H | .set_1_L | .set_1_A | .set_2_B | .set_2_C | .set_2_D | .set_2_E
  | .set_2_H | .set_2_L | .set_2_A | .set_3_B | .set_3_C | .set_3_D | .set_3_E | .set_3_H
  | .set_3_L | .set_3_A | .set_4_B | .set_4_C | .set_4_D | .set_4_E | .set_4_H | .set_4_L
  | .set_4_A | .set_5_B | .set_5_C | .set_5_D | .set_5_E | .set_5_H | .set_5_L | .set_5_A
  | .set_6_B | .set_6_C | .set_6_D | .set_6_E | .set_6_H | .set_6_L | .set_6_A | .set_7_B
  | .set_7_C | .set_7_D | .set_7_E | .set_7_H | .set_7_L | .set_7_A => []

/-- The fetches of an instruction (40_step_cycle.md R136 to R138): the opcode at `PC`, the other bytes at
the cursor. -/
def fetchAccesses (s : State) (i : Instr) : List BusAccess :=
  .read s.pc ::
    (List.range (i.length - 1)).map (fun k => .read (s.cursor + BitVec.ofNat 16 k))

/-- The accesses of a step (20_memory.md R77): the reads of IE and IF, then nothing (idle), or the two
writes of the dispatch, or the fetches and then the data accesses. A latched machine makes none. -/
def stepAccesses (s : State) : List BusAccess :=
  match s.fault with
  | some _ => []
  | none =>
    let w := s.wake
    [.read ieAddr, .read ifAddr] ++
      (if w.halted then []
       else
        match w.toDispatch with
        | some _ => pushes w w.pc
        | none => fetchAccesses w w.fetch ++ dataAccesses w w.fetch)

end Sys2Proof.Machine
end

