-- ==== Sys2Proof/Machine/Environment.lean ====
section
/-! DEFINITION. What the environment may do to the machine, and when (20_memory.md R72, 70_reset_and_hazards.md
R391, R392, R400, and the host table of 92_eei_decisions.md). -/

namespace Sys2Proof.Machine

/-- `HOST_WRITES` between two steps, or the loading of the image before the first: byte writes through the
bus's own masks (R72), in order. -/
def State.hostWrites (s : State) (l : List (Word × Byte)) : State :=
  l.foldl (fun t w => t.memWrite w.1 w.2) s

/-- A peripheral's request (R356): it reads IF, sets the source's bit and writes the result back. -/
def State.raise (s : State) (i : IntSource) : State :=
  s.memWrite ifAddr (s.memRead ifAddr ||| 1#8 <<< intBit i)

/-- The one override of `PC`, after loading and before the first step (R391). -/
def State.enterAt (s : State) (entryPc : Word) : State := { s with pc := entryPc }

/-- The machine as launched (R392): the parameters, the bytes the host loads, the entry `PC`. -/
def launch (cfg : Config) (image : List (Word × Byte)) (entryPc : Word) : State :=
  (({ State.reset with cfg := cfg }).hostWrites image).enterAt entryPc

/-- A run of one step after each batch of host writes (R72, R400), stopping at the first fault. -/
def runHosted : List (List (Word × Byte)) → State → StepResult
  | [], s => .next s
  | batch :: rest, s =>
    match step (s.hostWrites batch) with
    | .next t => runHosted rest t
    | .fault r => .fault r
    | .refused r => .refused r

end Sys2Proof.Machine
end

