-- ==== Sys2Proof/Safety.lean ====
section
/-! DEFINITION. What counts as a safe run, the invariant of the machine, and the words the statements are
written in. -/

namespace Sys2Proof.Machine

/-! ## Safe runs -/

/-- A step of normal behaviour: it answers a state whose fault latch is not set (40_step_cycle.md R139:
"no claim of normal completion holds" of a faulted machine). -/
def SafeStep (s : State) : Prop := ∃ t, step s = .next t ∧ t.fault = none

/-- The core is about to fetch: no fault is latched, it is not halted once a pending interrupt has woken
it, and no interrupt is dispatched (R131 steps 0 to 3a). -/
def State.Fetches (s : State) : Prop :=
  s.fault = none ∧ s.wake.halted = false ∧ s.wake.toDispatch = none

/-! ## The invariant -/

/-- What holds in every reachable state: the low nibble of `F` is zero (10_state.md R21), the memory is in
canonical form, IE keeps to its width (R33), and a halted core has neither a scheduled enable
(40_step_cycle.md R134) nor a halt bug to consume (R136). The canonical form is log entry 1 and the 8-bit
field of IE log entry 14 (DESIGN CHOICE); the 8-bit field of `F` is log entry 18 (DEDUCED). -/
def State.Inv (s : State) : Prop :=
  s.f &&& 0x0F#8 = 0#8 ∧
  Memory.wf s.mem = true ∧
  (s.cfg.ieWidth = .five → s.ieStored &&& 0xE0#8 = 0#8) ∧
  (s.halted = true → s.imeScheduled = false ∧ s.haltBug = false)

/-! ## Frames -/

/-- `t` is `u` but for what the bus reads: the memory and the two interrupt registers. -/
def SameButBus (u t : State) : Prop :=
  t = { u with mem := t.mem, ifStored := t.ifStored, ieStored := t.ieStored }

/-- Every byte reads as before. -/
def SameBytes (s t : State) : Prop := ∀ x, t.memRead x = s.memRead x

/-- Of all bytes only the one at `a` may read otherwise, and it reads what a write of `v` leaves there. -/
def StoredByte (s t : State) (a : Word) (v : Byte) : Prop :=
  t.memRead a = s.readBack a v ∧ ∀ x, x ≠ a → t.memRead x = s.memRead x

/-- Of all bytes only those at `a` and `b` may read otherwise, and they read what writes of `v` and `w`
leave there. -/
def StoredTwo (s t : State) (a : Word) (v : Byte) (b : Word) (w : Byte) : Prop :=
  t.memRead a = s.readBack a v ∧ t.memRead b = s.readBack b w ∧
    ∀ x, x ≠ a → x ≠ b → t.memRead x = s.memRead x

/-- The end of an instruction of `n` bytes that writes `A` and the four flags and nothing else. -/
def afterA (s : State) (n : Nat) (res : Byte) (z nf hf cf : Bool) : State :=
  { s with a := res, f := flagByte z nf hf cf, pc := s.next n, haltBug := false }

/-- The end of an instruction of `n` bytes that writes the four flags and nothing else. -/
def afterFlags (s : State) (n : Nat) (z nf hf cf : Bool) : State :=
  { s with f := flagByte z nf hf cf, pc := s.next n, haltBug := false }

/-- The end of an instruction of `n` bytes that writes nothing (beside what it is applied to). -/
def afterNext (s : State) (n : Nat) : State := { s with pc := s.next n, haltBug := false }

/-- `sext_16(b)` by its formula (00_scope.md R7). -/
def sext16 (b : Byte) : Word :=
  if b.toNat < 128 then BitVec.ofNat 16 b.toNat else BitVec.ofNat 16 (b.toNat + 0xFF00)

/-! ## Field codes -/

/-- The value of the 8-bit operand field (30_encoding.md R92). -/
def operandCode : Operand8 → Nat
  | .reg .b => 0 | .reg .c => 1 | .reg .d => 2 | .reg .e => 3
  | .reg .h => 4 | .reg .l => 5 | .mHL => 6 | .reg .a => 7

/-- The value of the field `r16` (R93). -/
def pairCode : Pair16 → Nat
  | .bc => 0 | .de => 1 | .hl => 2 | .sp => 3

/-- The value of the field `r16stk` (R93). -/
def stackCode : StackPair → Nat
  | .bc => 0 | .de => 1 | .hl => 2 | .af => 3

/-- The value of the condition field (R94). -/
def condCode : Cond → Nat
  | .nz => 0 | .z => 1 | .nc => 2 | .c => 3

/-- The value of the field `y` of a rotate or shift (R102). -/
def shiftCode : ShiftOp → Nat
  | .rlc => 0 | .rrc => 1 | .rl => 2 | .rr => 3 | .sla => 4 | .sra => 5 | .swap => 6 | .srl => 7

/-- A one-byte encoding by its number. -/
def opByte (n : Nat) : Byte := BitVec.ofNat 8 n

/-! ## Rotates and shifts by arithmetic -/

/-- The result of a rotate or shift of `v` with carry `cin` (47_cb_prefixed.md R342) as a number. -/
def shiftNumber (op : ShiftOp) (v cin : Nat) : Nat :=
  match op with
  | .rlc => (2 * v + v / 128) % 256
  | .rrc => v / 2 + 128 * (v % 2)
  | .rl => (2 * v + cin) % 256
  | .rr => v / 2 + 128 * cin
  | .sla => 2 * v % 256
  | .sra => v / 2 + 128 * (v / 128)
  | .swap => v % 16 * 16 + v / 16
  | .srl => v / 2

/-- The bit a rotate or shift of `v` moves into the carry (R342). -/
def shiftedOut (op : ShiftOp) (v : Nat) : Bool :=
  match op with
  | .rlc | .rl | .sla => decide (v ≥ 128)
  | .rrc | .rr | .sra | .srl => decide (v % 2 = 1)
  | .swap => false

/-! ## Who writes what -/

/-- The instructions that write `SP` (10_state.md R26). -/
def writesSP : Instr → Bool
  | .ld_SP_d16 _ | .call_NZ_a16 _ | .call_Z_a16 _ | .call_a16 _ | .call_NC_a16 _ | .call_C_a16 _
  | .add_SP_e8 _ | .inc_SP | .dec_SP | .ret_NZ | .pop_BC | .push_BC | .rst_00 | .ret_Z | .ret
  | .rst_08 | .ret_NC | .pop_DE | .push_DE | .rst_10 | .ret_C | .reti | .rst_18 | .pop_HL
  | .push_HL | .rst_20 | .rst_28 | .pop_AF | .push_AF | .rst_30 | .ld_SP_HL | .rst_38 => true
  | _ => false

/-- The instructions that write a flag (R37). -/
def writesFlags : Instr → Bool
  | .add_A_d8 _ | .adc_A_d8 _ | .sub_d8 _ | .sbc_A_d8 _ | .and_d8 _ | .add_SP_e8 _ | .xor_d8 _
  | .or_d8 _ | .ld_HL_SPe8 _ | .cp_d8 _ | .inc_B | .dec_B | .rlca | .add_HL_BC | .inc_C | .dec_C
  | .rrca | .inc_D | .dec_D | .rla | .add_HL_DE | .inc_E | .dec_E | .rra | .inc_H | .dec_H | .daa
  | .add_HL_HL | .inc_L | .dec_L | .cpl | .inc_mHL | .dec_mHL | .scf | .add_HL_SP | .inc_A
  | .dec_A | .ccf | .add_A_B | .add_A_C | .add_A_D | .add_A_E | .add_A_H | .add_A_L | .add_A_mHL
  | .add_A_A | .adc_A_B | .adc_A_C | .adc_A_D | .adc_A_E | .adc_A_H | .adc_A_L | .adc_A_mHL
  | .adc_A_A | .sub_B | .sub_C | .sub_D | .sub_E | .sub_H | .sub_L | .sub_mHL | .sub_A | .sbc_A_B
  | .sbc_A_C | .sbc_A_D | .sbc_A_E | .sbc_A_H | .sbc_A_L | .sbc_A_mHL | .sbc_A_A | .and_B
  | .and_C | .and_D | .and_E | .and_H | .and_L | .and_mHL | .and_A | .xor_B | .xor_C | .xor_D
  | .xor_E | .xor_H | .xor_L | .xor_mHL | .xor_A | .or_B | .or_C | .or_D | .or_E | .or_H | .or_L
  | .or_mHL | .or_A | .cp_B | .cp_C | .cp_D | .cp_E | .cp_H | .cp_L | .cp_mHL | .cp_A | .pop_AF
  | .rlc_B | .rlc_C | .rlc_D | .rlc_E | .rlc_H | .rlc_L | .rlc_mHL | .rlc_A | .rrc_B | .rrc_C
  | .rrc_D | .rrc_E | .rrc_H | .rrc_L | .rrc_mHL | .rrc_A | .rl_B | .rl_C | .rl_D | .rl_E | .rl_H
  | .rl_L | .rl_mHL | .rl_A | .rr_B | .rr_C | .rr_D | .rr_E | .rr_H | .rr_L | .rr_mHL | .rr_A
  | .sla_B | .sla_C | .sla_D | .sla_E | .sla_H | .sla_L | .sla_mHL | .sla_A | .sra_B | .sra_C
  | .sra_D | .sra_E | .sra_H | .sra_L | .sra_mHL | .sra_A | .swap_B | .swap_C | .swap_D | .swap_E
  | .swap_H | .swap_L | .swap_mHL | .swap_A | .srl_B | .srl_C | .srl_D | .srl_E | .srl_H | .srl_L
  | .srl_mHL | .srl_A | .bit_0_B | .bit_0_C | .bit_0_D | .bit_0_E | .bit_0_H | .bit_0_L
  | .bit_0_mHL | .bit_0_A | .bit_1_B | .bit_1_C | .bit_1_D | .bit_1_E | .bit_1_H | .bit_1_L
  | .bit_1_mHL | .bit_1_A | .bit_2_B | .bit_2_C | .bit_2_D | .bit_2_E | .bit_2_H | .bit_2_L
  | .bit_2_mHL | .bit_2_A | .bit_3_B | .bit_3_C | .bit_3_D | .bit_3_E | .bit_3_H | .bit_3_L
  | .bit_3_mHL | .bit_3_A | .bit_4_B | .bit_4_C | .bit_4_D | .bit_4_E | .bit_4_H | .bit_4_L
  | .bit_4_mHL | .bit_4_A | .bit_5_B | .bit_5_C | .bit_5_D | .bit_5_E | .bit_5_H | .bit_5_L
  | .bit_5_mHL | .bit_5_A | .bit_6_B | .bit_6_C | .bit_6_D | .bit_6_E | .bit_6_H | .bit_6_L
  | .bit_6_mHL | .bit_6_A | .bit_7_B | .bit_7_C | .bit_7_D | .bit_7_E | .bit_7_H | .bit_7_L
  | .bit_7_mHL | .bit_7_A => true
  | _ => false

end Sys2Proof.Machine
end

