-- ==== Sys2Proof/Certificates/Slice0/Obligations.lean ====
section
/-! DEFINITION. The statements for the provers, from the numbered rules of the spec. The opcode bytes in
them are those of the spec's opcode map, its decision D2 (log entry 7). -/

open Sys2Proof Sys2Proof.Machine

/-- For every profile, every well-formed instruction of it with every immediate, and every list of
bytes after it: decode of encode i followed by the bytes is i and the bytes. The opcode bytes,
fields and byte order are the spec's decisions D2, D3 and D13 (log entries 7 and 8). (R91, R92,
R93, R94, R95, R96, R97, R98, R99, R100, R102, R103, derived.) -/
def Obligations.DecodeOfEncodeGivesInstruction : Prop :=
  ∀ (p : Profile) (i : Instr) (rest : List Byte), i.wf p = true →
    decode p (encode i ++ rest) = .instr i rest

/-- For every profile and every list of bytes: if decode answers instruction i and a rest, then
encode i followed by the rest is the list, and i is an instruction of the profile. So each word
has one meaning. The opcode bytes, fields and byte order are the spec's decisions D2, D3 and D13
(log entries 7 and 8). (R90, R96, R97, R98, R99, R100, R101, R102, R103, R105, derived.) -/
def Obligations.EncodeOfDecodeGivesBytes : Prop :=
  ∀ (p : Profile) (bytes : List Byte) (i : Instr) (rest : List Byte),
    decode p bytes = .instr i rest → encode i ++ rest = bytes ∧ i.wf p = true

/-- One word of each family: LD A,0x12 (3E 12), LD B,C (41), HALT (76), ADD A,(HL) (86), CP 0x40 (FE
40), ADD HL,BC (09), LD (0xC100),SP (08 00 C1), PUSH AF (F5), CALL NZ,0x0200 (C4 00 02), JR -2
(18 FE), RST 0x28 (EF), LD (HL-),A (32), SWAP A (CB 37), BIT 7,H (CB 7C), RES 0,(HL) (CB 86),
SET 7,A (CB FF), EI (FB). The opcode bytes, fields and byte order are the spec's decisions D2,
D3 and D13 (log entries 7 and 8). (R97, R98, R99, R100, R102, R109, derived.) -/
def Obligations.WrittenOutWordsDecode : Prop :=
  decode .sm83Complete [0x3E#8, 0x12#8] = .instr (.ld_A_d8 0x12#8) [] ∧
  decode .sm83Complete [0x41#8] = .instr .ld_B_C [] ∧
  decode .sm83Complete [0x76#8] = .instr .halt [] ∧
  decode .sm83Complete [0x86#8] = .instr .add_A_mHL [] ∧
  decode .sm83Complete [0xFE#8, 0x40#8] = .instr (.cp_d8 0x40#8) [] ∧
  decode .sm83Complete [0x09#8] = .instr .add_HL_BC [] ∧
  decode .sm83Complete [0x08#8, 0x00#8, 0xC1#8] = .instr (.ld_ma16_SP 0xC100#16) [] ∧
  decode .sm83Complete [0xF5#8] = .instr .push_AF [] ∧
  decode .sm83Complete [0xC4#8, 0x00#8, 0x02#8] = .instr (.call_NZ_a16 0x0200#16) [] ∧
  decode .sm83Complete [0x18#8, 0xFE#8] = .instr (.jr_e8 0xFE#8) [] ∧
  decode .sm83Complete [0xEF#8] = .instr .rst_28 [] ∧
  decode .sm83Complete [0x32#8] = .instr .ld_mHLdec_A [] ∧
  decode .sm83Complete [0xCB#8, 0x37#8] = .instr .swap_A [] ∧
  decode .sm83Complete [0xCB#8, 0x7C#8] = .instr .bit_7_H [] ∧
  decode .sm83Complete [0xCB#8, 0x86#8] = .instr .res_0_mHL [] ∧
  decode .sm83Complete [0xCB#8, 0xFF#8] = .instr .set_7_A [] ∧
  decode .sm83Complete [0xFB#8] = .instr .ei []

/-- For every profile and first byte, whatever the two bytes after it: the instruction read has the
same length; after 0xCB it has two bytes. (R90, R101, derived.) -/
def Obligations.FirstByteGivesLength : Prop :=
  ∀ (p : Profile) (op b1 b2 c1 c2 : Byte),
    (decodeInstr p op b1 b2).length = (decodeInstr p op c1 c2).length ∧
    (decodeInstr p 0xCB#8 b1 b2).length = 2

/-- If no fault is latched, the core is not halted after the wake and no interrupt is dispatched,
and the bytes at PC and at the cursor decode to i, then i is an instruction of the profile and
the step is exec of i at the woken state, followed by the delayed enable (promoteResult with the
schedule the step began with). The place of the dispatch test before the fetch is the spec's
decision D7 (log entry 12), the delayed enable's reading its decision D6 (log entry 13). (R131,
R136, R137, R138, R140, derived.) -/
def Obligations.StepRunsDecodedInstruction : Prop :=
  ∀ (s : State) (i : Instr) (rest : List Byte), s.Fetches →
    decode s.cfg.profile [s.memRead s.pc, s.memRead s.cursor, s.memRead (s.cursor + 1#16)] =
      .instr i rest →
    i.wf s.cfg.profile = true ∧
    step s = promoteResult s.imeScheduled (exec i s.wake)

/-- If no fault is latched, halted is 1 and pending is 0, the step answers the very same state, and
its only bus accesses are the reads of IE and IF (listed as accesses by the spec's decision D15,
log entry 16). (R133, R134, R77, derived.) -/
def Obligations.HaltedCoreIdles : Prop :=
  ∀ s : State, s.fault = none → s.halted = true → s.pending = 0#5 →
    step s = .next s ∧ stepAccesses s = [.read 0xFFFF#16, .read 0xFF0F#16]

/-- If no fault is latched, halted is 1 and pending is not 0, the step is the step of the same state
with halted 0: with IME 0 it fetches at PC, with IME 1 it dispatches. That the wake writes
halted alone and the same step goes on is R133. The form of the step with IME 0, exec followed
by the delayed enable, is R131 and R141, the spec's decision D6 (log entry 13). That with IME 1
the dispatch is the whole step is R135 and R358, the spec's decision D7 (log entry 12). (R133,
R131, R135, R141, R358, derived.) -/
def Obligations.WakeDoesNotConsumeStep : Prop :=
  ∀ s : State, s.fault = none → s.halted = true → s.pending ≠ 0#5 →
    s.wake = { s with halted := false } ∧
    step s = step { s with halted := false } ∧
    (s.ime = false → s.Fetches ∧
      step s = promoteResult s.imeScheduled (exec s.wake.fetch { s with halted := false })) ∧
    (s.ime = true → ∃ i, step s = .next (State.dispatch { s with halted := false } i))

/-- If no fault is latched, IME is 1, and bit i of pending is set and no lower one, the step pushes
PC, clears IME, clears bit i of IF as the push left it, sets PC to the vector of source i, wakes
the core, and leaves every other field (IME_scheduled and halt_bug too) as it was. That halted
becomes 0 is the wake of R133. That the dispatch is a whole step before any fetch and writes
neither IME_scheduled nor halt_bug is R135, which the spec marks as its own reading, its
decision D7 (log entry 12). What the push writes is PushWritesTwoBytes. The vectors are the
parameters of the state. (R357, R358, R133, R135, derived.) -/
def Obligations.InterruptDispatch : Prop :=
  ∀ (s : State) (i : IntSource), s.fault = none → s.ime = true →
    s.pending.getLsbD (intBit i) = true →
    (∀ k, k < intBit i → s.pending.getLsbD k = false) →
    step s = .next
      { s with
        halted := false
        ime := false
        sp := s.sp - 2#16
        pc := vectorOf s.cfg.vectors i
        mem := (s.push16 s.pc).mem
        ieStored := (s.push16 s.pc).ieStored
        ifStored := (s.push16 s.pc).ifStored &&& ~~~(1#5 <<< intBit i) }

/-- For a step that fetches instruction i and executes it to u without a decode failure: if the
schedule was set when the step began and is set in u, the next state is u with IME 1 and the
schedule 0; otherwise it is u. So EI alone does not set IME; after EI any instruction but DI
ends with IME 1 and no schedule; EI after EI sets IME; DI after EI leaves both 0. When the
schedule is sampled is R141, the spec's decision D6 (log entry 13). (R141, R312, R393, R395,
R131, derived.) -/
def Obligations.DelayedEnable : Prop :=
  ∀ (s u : State), s.Fetches → exec s.wake.fetch s.wake = .next u → u.fault = none →
    (s.imeScheduled = true → u.imeScheduled = true →
      step s = .next { u with ime := true, imeScheduled := false }) ∧
    ((s.imeScheduled = false ∨ u.imeScheduled = false) → step s = .next u) ∧
    (s.wake.fetch = .ei → s.imeScheduled = false →
      u.ime = s.ime ∧ u.imeScheduled = true) ∧
    (s.wake.fetch = .di → u.ime = false ∧ u.imeScheduled = false) ∧
    (s.wake.fetch ≠ .di → s.imeScheduled = true →
      step s = .next { u with ime := true, imeScheduled := false })

/-- Without the halt bug the three bytes read are at PC, PC+1, PC+2 and next is PC+n; under it they
are at PC, PC and PC+1 and next is PC+(n-1); after the advance halt_bug is 0. A 0xCB byte under
the halt bug is SET 1,E in sm83_complete and a decode failure in source_named. The value of next
(R143, R292) is the spec's decision D8, the 0xCB case (R137) its decision D24 (log entry 11).
(R136, R137, R143, R292, derived.) -/
def Obligations.HaltBugRereadsOpcodeByte : Prop :=
  ∀ s : State,
    (s.haltBug = false →
      s.fetch = decodeInstr s.cfg.profile (s.memRead s.pc) (s.memRead (s.pc + 1#16))
        (s.memRead (s.pc + 2#16)) ∧
      ∀ n, 1 ≤ n → s.next n = s.pc + BitVec.ofNat 16 n) ∧
    (s.haltBug = true →
      s.fetch = decodeInstr s.cfg.profile (s.memRead s.pc) (s.memRead s.pc)
        (s.memRead (s.pc + 1#16)) ∧
      (∀ n, 1 ≤ n → s.next n = s.pc + BitVec.ofNat 16 (n - 1)) ∧
      (s.memRead s.pc = 0xCB#8 → s.cfg.profile = .sm83Complete → s.fetch = .set_1_E) ∧
      (s.memRead s.pc = 0xCB#8 → s.cfg.profile = .sourceNamed → s.fetch = .prefix_CB 0xCB#8)) ∧
    ∀ n, (s.advance n).haltBug = false ∧ (s.advance n).pc = s.next n

/-- In a state about to fetch, with op the byte at PC: if op is one of the 12 opcodes unmapped under
every profile, or a Tier G opcode under source_named, the next state is the woken state with the
latch DecodeFailure(op, PC, false); after 0xCB under source_named it is the woken state with the
latch DecodeFailure(second byte, cursor, true); for every other op (under source_named: not Tier
G and not 0xCB) the next state has no latched fault. Which opcodes are unmapped is R103, the
spec's decisions D1 and D4 (log entries 8 and 9), what the failing step leaves its decision D9.
(The next-state form of the failing step is the model choice of log entry 3.) (R103, R139, R350,
R351, R314, derived.) -/
def Obligations.UnmappedOpcodeLatchesFailure : Prop :=
  ∀ s : State, s.Fetches →
    (s.memRead s.pc ∈ [0x10#8, 0xD3#8, 0xDB#8, 0xDD#8, 0xE3#8, 0xE4#8, 0xEB#8, 0xEC#8, 0xED#8,
        0xF4#8, 0xFC#8, 0xFD#8] ∨
      (s.cfg.profile = .sourceNamed ∧
        s.memRead s.pc ∈ [0x02#8, 0x0A#8, 0x12#8, 0x1A#8, 0x22#8, 0x2A#8, 0x32#8, 0x3A#8, 0xC7#8,
          0xCF#8, 0xD7#8, 0xD9#8, 0xDF#8, 0xE0#8, 0xE2#8, 0xE7#8, 0xE8#8, 0xE9#8, 0xEA#8, 0xEF#8,
          0xF0#8, 0xF2#8, 0xF7#8, 0xFA#8, 0xFF#8]) →
      step s = .next { s.wake with
        fault := some { byte := s.memRead s.pc, addr := s.pc, wasPrefixed := false } }) ∧
    (s.memRead s.pc = 0xCB#8 → s.cfg.profile = .sourceNamed →
      step s = .next { s.wake with
        fault := some { byte := s.memRead s.cursor, addr := s.cursor, wasPrefixed := true } }) ∧
    (s.memRead s.pc ∉ [0x10#8, 0xD3#8, 0xDB#8, 0xDD#8, 0xE3#8, 0xE4#8, 0xEB#8, 0xEC#8, 0xED#8,
        0xF4#8, 0xFC#8, 0xFD#8] →
      (s.cfg.profile = .sm83Complete ∨
        s.memRead s.pc ∉ [0x02#8, 0x0A#8, 0x12#8, 0x1A#8, 0x22#8, 0x2A#8, 0x32#8, 0x3A#8, 0xC7#8,
          0xCB#8, 0xCF#8, 0xD7#8, 0xD9#8, 0xDF#8, 0xE0#8, 0xE2#8, 0xE7#8, 0xE8#8, 0xE9#8, 0xEA#8,
          0xEF#8, 0xF0#8, 0xF2#8, 0xF7#8, 0xFA#8, 0xFF#8]) →
      ∃ t, step s = .next t ∧ t.fault = none)

/-- For every state: if no fault is latched the step answers a next state; if one is latched the
step answers that fault with its byte, address and prefix mark. The first clause takes in the
step that fails to decode: that this step answers a next state, which carries the latch, is the
model's choice of log entry 3 (DESIGN CHOICE); R11, R131 and R139 give that step the outcome
Fault. That every later step reports the fault is R139, the spec's decision D9. (R36, R131,
R139, R352, R353, R11, derived.) -/
def Obligations.StepStopsOnlyWhenLatched : Prop :=
  ∀ s : State,
    (s.fault = none → ∃ t, step s = .next t) ∧
    (∀ x, s.fault = some x → step s = .fault (.decodeFailure x.byte x.addr x.wasPrefixed))

/-- For every instruction but the three constructors that stand for a failing fetch, and every
state: exec answers a next state, and it latches no fault and changes no parameter. That it
completes and raises nothing is R353. That it changes no parameter is the model's choice: the
state carries PROFILE, IE_WIDTH and VECTOR (log entry 2, DESIGN CHOICE), where R6 names them as
parameters of the model. (R353, R6, derived.) -/
def Obligations.MappedInstructionCompletes : Prop :=
  ∀ (i : Instr) (s : State), failureOf s i = none →
    ∃ t, exec i s = .next t ∧ t.fault = s.fault ∧ t.cfg = s.cfg

/-- exec of the constructors unmapped, unmapped_STOP and prefix_CB answers the same state with the
latch set to the failure: byte op at PC, byte 0x10 at PC, byte cb at the cursor with the prefix
mark. Their own effect is to take the decode failure. That 0x10 is unmapped is the spec's
decision D4 (log entry 9), what the failing step leaves its decision D9. (The next-state form is
the model's choice of log entry 3.) (R139, R314, R103, R351, derived.) -/
def Obligations.FailingFetchSetsLatchAlone : Prop :=
  ∀ (s : State) (b : Byte),
    exec (.unmapped b) s =
      .next { s with fault := some { byte := b, addr := s.pc, wasPrefixed := false } } ∧
    exec .unmapped_STOP s =
      .next { s with fault := some { byte := 0x10#8, addr := s.pc, wasPrefixed := false } } ∧
    exec (.prefix_CB b) s =
      .next { s with fault := some { byte := b, addr := s.cursor, wasPrefixed := true } }

/-- From every state that meets Inv, a step that answers a next state answers one that meets Inv.
Inv says: the low nibble of F is 0; the memory is in canonical form; with IE_WIDTH 5 bits 7..5
of the IE field are 0; a halted core has no scheduled enable and no halt bug. Of these clauses
three are the model's choice of how the state is held: the memory's canonical form (log entry 1,
DESIGN CHOICE), the clause on the 8-bit field that holds IE for both widths (log entry 14,
DESIGN CHOICE; R33 gives the width alone) and the clause on the 8-bit field that holds F (log
entry 18, DEDUCED from R21). The clause on a halted core is drawn from R134, R136 and R311.
(R21, R33, R134, R136, R311, derived.) -/
def Obligations.StepKeepsInvariant : Prop :=
  ∀ s t : State, s.Inv → step s = .next t → t.Inv

/-- Inv, the invariant of StepKeepsInvariant, holds at State.reset. Its clauses on the memory's
canonical form (log entry 1, DESIGN CHOICE), on the 8-bit field that holds IE (log entry 14,
DESIGN CHOICE) and on the 8-bit field that holds F (log entry 18, DEDUCED from R21) are the
model's choice of how the state is held. That IE and the control bits are 0 at reset is the
spec's decision D10 (log entry 10). (R21, R33, R40, derived.) -/
def Obligations.ResetMeetsInvariant : Prop :=
  State.reset.Inv

/-- A, B, C, D, E, H, L and F are 0x00, PC is 0x0000, SP is 0xFFFE, halted, IME, IME_scheduled and
halt_bug are 0, a read of 0xFF0F gives 0xE0 and a read of 0xFFFF gives 0x00, the latch is none,
and every other byte is that of the unconstrained INITIAL_IMAGE (log entry 1). The zeros of the
control bits, IF and IE are the spec's decision D10. (R40, derived.) -/
def Obligations.ResetState : Prop :=
  State.reset.a = 0x00#8 ∧ State.reset.b = 0x00#8 ∧ State.reset.c = 0x00#8 ∧
  State.reset.d = 0x00#8 ∧ State.reset.e = 0x00#8 ∧ State.reset.h = 0x00#8 ∧
  State.reset.l = 0x00#8 ∧ State.reset.f = 0x00#8 ∧
  State.reset.pc = 0x0000#16 ∧ State.reset.sp = 0xFFFE#16 ∧
  State.reset.halted = false ∧ State.reset.ime = false ∧ State.reset.imeScheduled = false ∧
  State.reset.haltBug = false ∧ State.reset.ifStored = 0#5 ∧ State.reset.ieStored = 0#8 ∧
  State.reset.memRead 0xFF0F#16 = 0xE0#8 ∧ State.reset.memRead 0xFFFF#16 = 0x00#8 ∧
  State.reset.fault = none ∧
  ∀ x : Word, x ≠ 0xFF0F#16 → x ≠ 0xFFFF#16 → State.reset.memRead x = Config.initialImage x

/-- If a step answers a next state, its parameters PROFILE, IE_WIDTH and VECTOR are those of the
state it started from. (That the state carries them is the model choice of log entry 2.) (R6,
R5, R33, R354, derived.) -/
def Obligations.StepKeepsParameters : Prop :=
  ∀ s t : State, step s = .next t → t.cfg = s.cfg

/-- If a step answers a next state with another IME: when IME became 1 the step fetched an
instruction and either the schedule was set or the instruction was RETI; when it became 0 the
step fetched DI or dispatched an interrupt. When the delayed enable acts is the spec's decision
D6 (log entry 13), RETI its decision D1 (Tier G, log entry 8). (R28, R360, R141, R291, R313,
R358, derived.) -/
def Obligations.EnableChangesOnlyByListedWriters : Prop :=
  ∀ s t : State, step s = .next t → t.ime ≠ s.ime →
    (t.ime = true ∧ s.Fetches ∧ (s.imeScheduled = true ∨ s.wake.fetch = .reti)) ∨
    (t.ime = false ∧ ((s.Fetches ∧ s.wake.fetch = .di) ∨ ∃ i, s.wake.toDispatch = some i))

/-- Over every step that answers a next state: halted becomes 1 only in a step that fetched HALT,
and 0 only if pending was not 0; halt_bug becomes 1 only in a step that fetched HALT with IME 0
and pending not 0; IME_scheduled becomes 1 only in a step that fetched EI. (R27, R29, R30, R133,
R311, R312, derived.) -/
def Obligations.HaltBitsChangeOnlyByListedWriters : Prop :=
  ∀ s t : State, step s = .next t →
    (s.halted = false → t.halted = true → s.Fetches ∧ s.wake.fetch = .halt) ∧
    (s.halted = true → t.halted = false → s.pending ≠ 0#5) ∧
    (s.haltBug = false → t.haltBug = true →
      s.Fetches ∧ s.wake.fetch = .halt ∧ s.ime = false ∧ s.pending ≠ 0#5) ∧
    (s.imeScheduled = false → t.imeScheduled = true → s.Fetches ∧ s.wake.fetch = .ei)

/-- For every instruction that is not PUSH, POP, CALL, RET, RST, RETI (any form), LD SP,d16, LD
SP,HL, INC SP, DEC SP or ADD SP,e8: exec leaves SP as it was. The frame is R9, the spec's
decision D5 (log entry 19). (R26, R9, derived.) -/
def Obligations.StackPointerWriters : Prop :=
  ∀ (i : Instr) (s t : State), writesSP i = false → exec i s = .next t → t.sp = s.sp

/-- For every instruction that the table of who writes each flag does not list: exec leaves F as it
was. The frame is R9, the spec's decision D5 (log entry 19). (R37, R9, derived.) -/
def Obligations.FlagWriters : Prop :=
  ∀ (i : Instr) (s t : State), writesFlags i = false → exec i s = .next t → t.f = s.f

/-- For every step that answers a next state: every byte reads as it does after the accesses of the
step (stepAccesses, in the order of the rules) are performed on the state before it; IF after a
dispatch is left out (InterruptDispatch states it). The list and order of the accesses are the
spec's decision D15; that they are a function of the state is the model's choice of log entry
16. (R62, R68, R71, R77, R358, derived.) -/
def Obligations.StepWritesWhatItsAccessesSay : Prop :=
  ∀ s t : State, step s = .next t → ∀ x : Word,
    (x ≠ 0xFF0F#16 ∨ ∀ i, s.event ≠ .dispatched i) →
    t.memRead x = (s.accesses (stepAccesses s)).memRead x

/-- A read of 0xFF0F is IF_stored with bits 7..5 set, of 0xFFFF is IE_stored, and of any other
address the byte listed there or, where nothing is listed, the byte of the unconstrained image.
The first two clauses are R61. The third is the model's choice of how R61 and R41 are held: what
an unlisted address reads as is log entry 1 (DESIGN CHOICE). (R61, R41, derived.) -/
def Obligations.BusRead : Prop :=
  ∀ s : State,
    s.memRead 0xFF0F#16 = BitVec.ofNat 8 (s.ifStored.toNat + 0xE0) ∧
    s.memRead 0xFFFF#16 = s.ieStored ∧
    ∀ x : Word, x ≠ 0xFF0F#16 → x ≠ 0xFFFF#16 →
      s.memRead x = (Memory.lookup s.mem x.toNat).getD (Config.initialImage x)

/-- After a write of v to x: every field but memory, IF and IE is as before; a read of x gives v at
a plain address, v with bits 7..5 set at 0xFF0F, and at 0xFFFF the low 5 bits of v (all 8 with
IE_WIDTH 8); every other address reads as before. (R62.) -/
def Obligations.BusWrite : Prop :=
  ∀ (s : State) (x : Word) (v : Byte),
    SameButBus s (s.memWrite x v) ∧
    (x ≠ 0xFF0F#16 → x ≠ 0xFFFF#16 → (s.memWrite x v).memRead x = v) ∧
    (s.memWrite 0xFF0F#16 v).ifStored = BitVec.ofNat 5 v.toNat ∧
    (s.memWrite 0xFF0F#16 v).memRead 0xFF0F#16 = v ||| 0xE0#8 ∧
    (s.cfg.ieWidth = .five → (s.memWrite 0xFFFF#16 v).memRead 0xFFFF#16 = v &&& 0x1F#8) ∧
    (s.cfg.ieWidth = .eight → (s.memWrite 0xFFFF#16 v).memRead 0xFFFF#16 = v) ∧
    (s.memWrite x v).memRead x = s.readBack x v ∧
    ∀ y, y ≠ x → (s.memWrite x v).memRead y = s.memRead y

/-- push16(v) leaves every field but SP and what the bus reads as it was, SP two lower, the byte at
SP-1 as a write of the high byte leaves it, the byte at SP-2 as a write of the low byte leaves
it, and every other byte as before; it is the write of the high byte followed by that of the low
byte. (R266.) -/
def Obligations.PushWritesTwoBytes : Prop :=
  ∀ (s : State) (v : Word),
    SameButBus { s with sp := s.sp - 2#16 } (s.push16 v) ∧
    StoredTwo s (s.push16 v) (s.sp - 1#16) (BitVec.ofNat 8 (v.toNat / 256))
      (s.sp - 2#16) (BitVec.ofNat 8 (v.toNat % 256)) ∧
    ∀ y, (s.push16 v).memRead y =
      (s.accesses [.write (s.sp - 1#16) (hiByte v), .write (s.sp - 2#16) (loByte v)]).memRead y

/-- If neither SP-1 nor SP-2 is 0xFF0F or 0xFFFF, then after push16(v) the byte at SP is the low
byte, the one at SP+1 the high byte, popping returns v, and SP after the pop is SP before the
push. (R267, R268, R63, derived.) -/
def Obligations.StackRoundTrip : Prop :=
  ∀ (s : State) (v : Word),
    s.sp - 1#16 ≠ 0xFF0F#16 → s.sp - 1#16 ≠ 0xFFFF#16 →
    s.sp - 2#16 ≠ 0xFF0F#16 → s.sp - 2#16 ≠ 0xFFFF#16 →
    (s.push16 v).memRead (s.push16 v).sp = loByte v ∧
    (s.push16 v).memRead ((s.push16 v).sp + 1#16) = hiByte v ∧
    (s.push16 v).popValue = v ∧ (s.push16 v).popped.sp = s.sp

/-- A becomes (A + v) mod 256, Z is whether that is 0, N is 0, H is the carry out of bit 3, C the
carry out of bit 7. Given for the register forms, the (HL) form and the immediate form, with
their encodings; nothing else is written (PC goes to next, the fetch has consumed halt_bug), so
every register, control bit and byte of memory is as before. (R160, R170, R171, R172.) -/
def Obligations.AddToAccumulator : Prop :=
  (∀ (r : Operand8) (s : State),
    encode (Forms.alu .add r) = [opByte (0x80 + operandCode r)] ∧
    exec (Forms.alu .add r) s = .next (afterA s 1
      (BitVec.ofNat 8 (s.a.toNat + (s.operand r).toNat))
      (decide ((s.a.toNat + (s.operand r).toNat) % 256 = 0)) false
      (decide (s.a.toNat % 16 + (s.operand r).toNat % 16 > 0xF))
      (decide (s.a.toNat + (s.operand r).toNat > 0xFF)))) ∧
  (∀ (d8 : Byte) (s : State),
    encode (Forms.aluImm .add d8) = [0xC6#8, d8] ∧
    exec (Forms.aluImm .add d8) s = .next (afterA s 2
      (BitVec.ofNat 8 (s.a.toNat + d8.toNat))
      (decide ((s.a.toNat + d8.toNat) % 256 = 0)) false
      (decide (s.a.toNat % 16 + d8.toNat % 16 > 0xF))
      (decide (s.a.toNat + d8.toNat > 0xFF))))

/-- A becomes (A + v + C) mod 256, Z is whether that is 0, N is 0, H and C are the carries of the
sum with the carry-in, out of bits 3 and 7. Given for the register forms, the (HL) form and the
immediate form, with their encodings; nothing else is written (PC goes to next, the fetch has
consumed halt_bug), so every register, control bit and byte of memory is as before. (R161, R173,
R174, R175.) -/
def Obligations.AddWithCarryToAccumulator : Prop :=
  (∀ (r : Operand8) (s : State),
    encode (Forms.alu .adc r) = [opByte (0x88 + operandCode r)] ∧
    exec (Forms.alu .adc r) s = .next (afterA s 1
      (BitVec.ofNat 8 (s.a.toNat + (s.operand r).toNat + s.flagC.toNat))
      (decide ((s.a.toNat + (s.operand r).toNat + s.flagC.toNat) % 256 = 0)) false
      (decide (s.a.toNat % 16 + (s.operand r).toNat % 16 + s.flagC.toNat > 0xF))
      (decide (s.a.toNat + (s.operand r).toNat + s.flagC.toNat > 0xFF)))) ∧
  (∀ (d8 : Byte) (s : State),
    encode (Forms.aluImm .adc d8) = [0xCE#8, d8] ∧
    exec (Forms.aluImm .adc d8) s = .next (afterA s 2
      (BitVec.ofNat 8 (s.a.toNat + d8.toNat + s.flagC.toNat))
      (decide ((s.a.toNat + d8.toNat + s.flagC.toNat) % 256 = 0)) false
      (decide (s.a.toNat % 16 + d8.toNat % 16 + s.flagC.toNat > 0xF))
      (decide (s.a.toNat + d8.toNat + s.flagC.toNat > 0xFF))))

/-- A becomes (A - v) mod 256, Z is whether that is 0, N is 1, H is the borrow from bit 4, C is A <
v. Given for the register forms, the (HL) form and the immediate form, with their encodings;
nothing else is written (PC goes to next, the fetch has consumed halt_bug), so every register,
control bit and byte of memory is as before. (R162, R176, R177, R178.) -/
def Obligations.SubtractFromAccumulator : Prop :=
  (∀ (r : Operand8) (s : State),
    encode (Forms.alu .sub r) = [opByte (0x90 + operandCode r)] ∧
    exec (Forms.alu .sub r) s = .next (afterA s 1
      (BitVec.ofNat 8 (s.a.toNat + 256 - (s.operand r).toNat))
      (decide ((s.a.toNat + 256 - (s.operand r).toNat) % 256 = 0)) true
      (decide (s.a.toNat % 16 < (s.operand r).toNat % 16))
      (decide (s.a.toNat < (s.operand r).toNat)))) ∧
  (∀ (d8 : Byte) (s : State),
    encode (Forms.aluImm .sub d8) = [0xD6#8, d8] ∧
    exec (Forms.aluImm .sub d8) s = .next (afterA s 2
      (BitVec.ofNat 8 (s.a.toNat + 256 - d8.toNat))
      (decide ((s.a.toNat + 256 - d8.toNat) % 256 = 0)) true
      (decide (s.a.toNat % 16 < d8.toNat % 16))
      (decide (s.a.toNat < d8.toNat))))

/-- A becomes (A - v - C) mod 256, Z is whether that is 0, N is 1, H is (A mod 16) < (v mod 16) + C,
C is A < v + C with the old carry. Given for the register forms, the (HL) form and the immediate
form, with their encodings; nothing else is written (PC goes to next, the fetch has consumed
halt_bug), so every register, control bit and byte of memory is as before. (R163, R179, R180,
R181.) -/
def Obligations.SubtractWithCarryFromAccumulator : Prop :=
  (∀ (r : Operand8) (s : State),
    encode (Forms.alu .sbc r) = [opByte (0x98 + operandCode r)] ∧
    exec (Forms.alu .sbc r) s = .next (afterA s 1
      (BitVec.ofNat 8 (s.a.toNat + 512 - ((s.operand r).toNat + s.flagC.toNat)))
      (decide ((s.a.toNat + 512 - ((s.operand r).toNat + s.flagC.toNat)) % 256 = 0)) true
      (decide (s.a.toNat % 16 < (s.operand r).toNat % 16 + s.flagC.toNat))
      (decide (s.a.toNat < (s.operand r).toNat + s.flagC.toNat)))) ∧
  (∀ (d8 : Byte) (s : State),
    encode (Forms.aluImm .sbc d8) = [0xDE#8, d8] ∧
    exec (Forms.aluImm .sbc d8) s = .next (afterA s 2
      (BitVec.ofNat 8 (s.a.toNat + 512 - (d8.toNat + s.flagC.toNat)))
      (decide ((s.a.toNat + 512 - (d8.toNat + s.flagC.toNat)) % 256 = 0)) true
      (decide (s.a.toNat % 16 < d8.toNat % 16 + s.flagC.toNat))
      (decide (s.a.toNat < d8.toNat + s.flagC.toNat))))

/-- Z is whether A = v, N is 1, H is the borrow from bit 4, C is A < v; A is not written. Given for
the register forms, the (HL) form and the immediate form, with their encodings; nothing else is
written (PC goes to next, the fetch has consumed halt_bug), so every register, control bit and
byte of memory is as before. (R191, R192, R193.) -/
def Obligations.CompareWithAccumulator : Prop :=
  (∀ (r : Operand8) (s : State),
    encode (Forms.alu .cp r) = [opByte (0xB8 + operandCode r)] ∧
    exec (Forms.alu .cp r) s = .next (afterFlags s 1
      (decide ((s.a.toNat + 256 - (s.operand r).toNat) % 256 = 0)) true
      (decide (s.a.toNat % 16 < (s.operand r).toNat % 16))
      (decide (s.a.toNat < (s.operand r).toNat)))) ∧
  (∀ (d8 : Byte) (s : State),
    encode (Forms.aluImm .cp d8) = [0xFE#8, d8] ∧
    exec (Forms.aluImm .cp d8) s = .next (afterFlags s 2
      (decide ((s.a.toNat + 256 - d8.toNat) % 256 = 0)) true
      (decide (s.a.toNat % 16 < d8.toNat % 16))
      (decide (s.a.toNat < d8.toNat))))

/-- A becomes A & v, A ^ v or A | v, Z is whether that is 0, N and C are 0, H is 1 for AND and 0 for
XOR and OR. Given for the register forms, the (HL) form and the immediate form of each, with
their encodings; nothing else is written (PC goes to next, the fetch has consumed halt_bug), so
every register, control bit and byte of memory is as before. (R164, R165, R166, R182, R183,
R184, R185, R186, R187, R188, R189, R190.) -/
def Obligations.LogicWithAccumulator : Prop :=
  (∀ (r : Operand8) (s : State),
    encode (Forms.alu .and r) = [opByte (0xA0 + operandCode r)] ∧
    exec (Forms.alu .and r) s = .next (afterA s 1 (s.a &&& (s.operand r))
      (decide (s.a &&& (s.operand r) = 0#8)) false true false)) ∧
  (∀ (d8 : Byte) (s : State),
    encode (Forms.aluImm .and d8) = [0xE6#8, d8] ∧
    exec (Forms.aluImm .and d8) s = .next (afterA s 2 (s.a &&& d8)
      (decide (s.a &&& d8 = 0#8)) false true false)) ∧
  (∀ (r : Operand8) (s : State),
    encode (Forms.alu .xor r) = [opByte (0xA8 + operandCode r)] ∧
    exec (Forms.alu .xor r) s = .next (afterA s 1 (s.a ^^^ (s.operand r))
      (decide (s.a ^^^ (s.operand r) = 0#8)) false false false)) ∧
  (∀ (d8 : Byte) (s : State),
    encode (Forms.aluImm .xor d8) = [0xEE#8, d8] ∧
    exec (Forms.aluImm .xor d8) s = .next (afterA s 2 (s.a ^^^ d8)
      (decide (s.a ^^^ d8 = 0#8)) false false false)) ∧
  (∀ (r : Operand8) (s : State),
    encode (Forms.alu .or r) = [opByte (0xB0 + operandCode r)] ∧
    exec (Forms.alu .or r) s = .next (afterA s 1 (s.a ||| (s.operand r))
      (decide (s.a ||| (s.operand r) = 0#8)) false false false)) ∧
  (∀ (d8 : Byte) (s : State),
    encode (Forms.aluImm .or d8) = [0xF6#8, d8] ∧
    exec (Forms.aluImm .or d8) s = .next (afterA s 2 (s.a ||| d8)
      (decide (s.a ||| d8 = 0#8)) false false false))

/-- INC: the operand becomes (v + 1) mod 256, Z is whether that is 0, N is 0, H is whether v mod 16
was 15, C is kept. DEC: the operand becomes (v - 1) mod 256, Z is whether that is 0, N is 1, H
is whether v mod 16 was 0, C is kept. The (HL) forms read and then write the byte at HL; the
flags come from the result, not from what IF or IE stores. Everything else is as before. (R167,
R168, R194, R195, R196, R197.) -/
def Obligations.IncrementAndDecrementOperand : Prop :=
  (∀ (r : Reg8) (s : State),
    encode (Forms.inc (.reg r)) = [opByte (0x04 + 8 * operandCode (.reg r))] ∧
    exec (Forms.inc (.reg r)) s =
      .next (afterFlags (s.setReg r (BitVec.ofNat 8 ((s.reg r).toNat + 1))) 1
        (decide (((s.reg r).toNat + 1) % 256 = 0)) false (decide ((s.reg r).toNat % 16 = 0xF)) s.flagC)) ∧
  (∀ s : State, encode .inc_mHL = [0x34#8] ∧ ∃ t, exec .inc_mHL s = .next t ∧
    SameButBus (afterFlags s 1 (decide (((s.memRead s.hl).toNat + 1) % 256 = 0)) false
      (decide ((s.memRead s.hl).toNat % 16 = 0xF)) s.flagC) t ∧
    StoredByte s t s.hl (BitVec.ofNat 8 ((s.memRead s.hl).toNat + 1)) ∧
    dataAccesses s .inc_mHL = [.read s.hl, .write s.hl (BitVec.ofNat 8 ((s.memRead s.hl).toNat + 1))]) ∧
  (∀ (r : Reg8) (s : State),
    encode (Forms.dec (.reg r)) = [opByte (0x05 + 8 * operandCode (.reg r))] ∧
    exec (Forms.dec (.reg r)) s =
      .next (afterFlags (s.setReg r (BitVec.ofNat 8 ((s.reg r).toNat + 255))) 1
        (decide (((s.reg r).toNat + 255) % 256 = 0)) true (decide ((s.reg r).toNat % 16 = 0)) s.flagC)) ∧
  (∀ s : State, encode .dec_mHL = [0x35#8] ∧ ∃ t, exec .dec_mHL s = .next t ∧
    SameButBus (afterFlags s 1 (decide (((s.memRead s.hl).toNat + 255) % 256 = 0)) true
      (decide ((s.memRead s.hl).toNat % 16 = 0)) s.flagC) t ∧
    StoredByte s t s.hl (BitVec.ofNat 8 ((s.memRead s.hl).toNat + 255)) ∧
    dataAccesses s .dec_mHL = [.read s.hl, .write s.hl (BitVec.ofNat 8 ((s.memRead s.hl).toNat + 255))])

/-- With N 0: 0x06 is added if H was 1 or the low nibble exceeded 9, 0x60 if C was 1 or A exceeded
0x99, which also sets C. With N 1: 0x06 is subtracted if H was 1, 0x60 if C was 1, C kept. Z is
whether the result is 0. Nothing else is written. (R198.) -/
def Obligations.DecimalAdjust : Prop :=
  ∀ s : State, encode .daa = [0x27#8] ∧
    (s.flagN = false → exec .daa s = .next (
      let adj := (if s.flagH = true ∨ s.a.toNat % 16 > 9 then 0x06 else 0) +
        (if s.flagC = true ∨ s.a.toNat > 0x99 then 0x60 else 0)
      afterA s 1 (BitVec.ofNat 8 (s.a.toNat + adj)) (decide ((s.a.toNat + adj) % 256 = 0))
        false false (decide (s.flagC = true ∨ s.a.toNat > 0x99)))) ∧
    (s.flagN = true → exec .daa s = .next (
      let adj := (if s.flagH = true then 0x06 else 0) + (if s.flagC = true then 0x60 else 0)
      afterA s 1 (BitVec.ofNat 8 (s.a.toNat + 256 - adj))
        (decide ((s.a.toNat + 256 - adj) % 256 = 0)) true false s.flagC))

/-- CPL: A becomes 0xFF - A, N and H are 1, Z and C kept. SCF: C is 1, N and H 0, Z kept. CCF: C is
toggled, N and H 0, Z kept. Nothing else is written. (R199, R200, R201.) -/
def Obligations.ComplementAndCarryFlag : Prop :=
  ∀ s : State,
    encode .cpl = [0x2F#8] ∧ encode .scf = [0x37#8] ∧ encode .ccf = [0x3F#8] ∧
    exec .cpl s =
      .next (afterA s 1 (BitVec.ofNat 8 (0xFF - s.a.toNat)) s.flagZ true true s.flagC) ∧
    exec .scf s = .next (afterFlags s 1 s.flagZ false false true) ∧
    exec .ccf s = .next (afterFlags s 1 s.flagZ false false (!s.flagC))

/-- RLCA: A becomes (2A + bit 7) mod 256, C is bit 7. RLA: (2A + C) mod 256, C is bit 7. RRCA: A/2
with bit 0 moved to bit 7, C is bit 0. RRA: A/2 with the old C in bit 7, C is bit 0. Z, N, H are
0 whatever the result; nothing else is written. (R202, R203, R204, R205.) -/
def Obligations.AccumulatorRotates : Prop :=
  ∀ s : State,
    encode .rlca = [0x07#8] ∧ encode .rla = [0x17#8] ∧ encode .rrca = [0x0F#8] ∧
    encode .rra = [0x1F#8] ∧
    exec .rlca s = .next (afterA s 1 (BitVec.ofNat 8 (2 * s.a.toNat + s.a.toNat / 128))
      false false false (decide (s.a.toNat ≥ 128))) ∧
    exec .rla s = .next (afterA s 1 (BitVec.ofNat 8 (2 * s.a.toNat + s.flagC.toNat))
      false false false (decide (s.a.toNat ≥ 128))) ∧
    exec .rrca s = .next (afterA s 1 (BitVec.ofNat 8 (s.a.toNat / 2 + 128 * (s.a.toNat % 2)))
      false false false (decide (s.a.toNat % 2 = 1))) ∧
    exec .rra s = .next (afterA s 1 (BitVec.ofNat 8 (s.a.toNat / 2 + 128 * s.flagC.toNat))
      false false false (decide (s.a.toNat % 2 = 1)))

/-- HL becomes (HL + rr) mod 65536, N is 0, H is the carry out of bit 11, C out of bit 15, Z is
kept; nothing else is written (both operands are read before HL is written). (R210.) -/
def Obligations.AddPairToHL : Prop :=
  ∀ (p : Pair16) (s : State),
    encode (Forms.addHL p) = [opByte (0x09 + 16 * pairCode p)] ∧
    exec (Forms.addHL p) s = .next (
      let sum := s.hl.toNat + (s.pair p).toNat
      afterFlags { s with
          h := BitVec.ofNat 8 (sum % 65536 / 256), l := BitVec.ofNat 8 (sum % 256) } 1
        s.flagZ false
        (decide (s.hl.toNat % 4096 + (s.pair p).toNat % 4096 > 0xFFF)) (decide (sum > 0xFFFF)))

/-- BC, DE, HL or SP becomes its value plus or minus 1 mod 65536; no flag and nothing else is
written. (R211, R212.) -/
def Obligations.IncrementAndDecrementPair : Prop :=
  ∀ (p : Pair16) (s : State),
    encode (Forms.incPair p) = [opByte (0x03 + 16 * pairCode p)] ∧
    encode (Forms.decPair p) = [opByte (0x0B + 16 * pairCode p)] ∧
    (∃ t, exec (Forms.incPair p) s = .next t ∧
      t = afterNext (s.setPair p (t.pair p)) 1 ∧
      (t.pair p).toNat = ((s.pair p).toNat + 1) % 65536) ∧
    (∃ t, exec (Forms.decPair p) s = .next t ∧
      t = afterNext (s.setPair p (t.pair p)) 1 ∧
      (t.pair p).toNat = ((s.pair p).toNat + 65535) % 65536)

/-- HL becomes (SP + sext_16(e)) mod 65536 and SP is kept; Z and N are 0, H is the carry out of bit
3 and C out of bit 7 of the unsigned low bytes. Nothing else is written. (R214, R263.) -/
def Obligations.LoadHLWithStackPointerOffset : Prop :=
  ∀ (e8 : Byte) (s : State),
    encode (.ld_HL_SPe8 e8) = [0xF8#8, e8] ∧
    exec (.ld_HL_SPe8 e8) s = .next (
      let sum := (s.sp.toNat + (sext16 e8).toNat) % 65536
      afterFlags { s with h := BitVec.ofNat 8 (sum / 256), l := BitVec.ofNat 8 (sum % 256) } 2
        false false
        (decide (s.sp.toNat % 16 + e8.toNat % 16 > 0xF))
        (decide (s.sp.toNat % 256 + e8.toNat > 0xFF)))

/-- SP becomes (SP + sext_16(e)) mod 65536; Z and N are 0, H is the carry out of bit 3 and C out of
bit 7 of the unsigned low bytes. Nothing else is written. Tier G: the spec takes the instruction
from general knowledge, its decision D1. (R213, R214, derived.) -/
def Obligations.AddOffsetToStackPointer : Prop :=
  ∀ (e8 : Byte) (s : State),
    encode (.add_SP_e8 e8) = [0xE8#8, e8] ∧
    exec (.add_SP_e8 e8) s = .next (
      afterFlags { s with sp := BitVec.ofNat 16 (s.sp.toNat + (sext16 e8).toNat) } 2 false false
        (decide (s.sp.toNat % 16 + e8.toNat % 16 > 0xF))
        (decide (s.sp.toNat % 256 + e8.toNat > 0xFF)))

/-- LD r,r', LD r,d8, LD r,(HL): the register becomes the source register, the immediate, or the
byte at HL (the address formed before the write); no flag, no other register and no memory is
written. LD (HL),r and LD (HL),d8: the byte at HL becomes the register or the immediate (its low
bits at IF and IE); every other byte, every register and every flag is as before. (R220, R221,
R222, R223, R224.) -/
def Obligations.LoadByte : Prop :=
  (∀ (r q : Reg8) (s : State),
    encode (Forms.ld (.reg r) (.reg q)) =
      [opByte (0x40 + 8 * operandCode (.reg r) + operandCode (.reg q))] ∧
    exec (Forms.ld (.reg r) (.reg q)) s = .next (afterNext (s.setReg r (s.reg q)) 1)) ∧
  (∀ (r : Reg8) (d8 : Byte) (s : State),
    encode (Forms.ldImm (.reg r) d8) = [opByte (0x06 + 8 * operandCode (.reg r)), d8] ∧
    exec (Forms.ldImm (.reg r) d8) s = .next (afterNext (s.setReg r d8) 2)) ∧
  (∀ (r : Reg8) (s : State),
    encode (Forms.ld (.reg r) .mHL) = [opByte (0x46 + 8 * operandCode (.reg r))] ∧
    exec (Forms.ld (.reg r) .mHL) s =
      .next (afterNext (s.setReg r (s.memRead (joinBytes s.h s.l))) 1)) ∧
  (∀ (r : Reg8) (s : State),
    encode (Forms.ld .mHL (.reg r)) = [opByte (0x70 + operandCode (.reg r))] ∧
    ∃ t, exec (Forms.ld .mHL (.reg r)) s = .next t ∧
      SameButBus (afterNext s 1) t ∧ StoredByte s t (joinBytes s.h s.l) (s.reg r)) ∧
  (∀ (d8 : Byte) (s : State),
    encode (.ld_mHL_d8 d8) = [0x36#8, d8] ∧
    ∃ t, exec (.ld_mHL_d8 d8) s = .next t ∧
      SameButBus (afterNext s 2) t ∧ StoredByte s t (joinBytes s.h s.l) d8)

/-- A becomes the byte at BC, DE, HL, 0xFF00 + a8, 0xFF00 + C or a16; the HL+ and HL- forms then
step HL by one mod 65536; nothing else is written and no flag changes. Tier G: the spec takes
these instructions from general knowledge, its decision D1. (R227, R228, R231, R232, R234, R236,
R238, derived.) -/
def Obligations.LoadAccumulatorFromMemory : Prop :=
  ∀ (s : State) (a8 : Byte) (a16 : Word),
    encode .ld_A_mBC = [0x0A#8] ∧ encode .ld_A_mDE = [0x1A#8] ∧
    encode .ld_A_mHLinc = [0x2A#8] ∧ encode .ld_A_mHLdec = [0x3A#8] ∧
    encode (.ldh_A_ma8 a8) = [0xF0#8, a8] ∧ encode .ld_A_mC = [0xF2#8] ∧
    encode (.ld_A_ma16 a16) = [0xFA#8, loByte a16, hiByte a16] ∧
    exec .ld_A_mBC s = .next (afterNext { s with a := s.memRead (joinBytes s.b s.c) } 1) ∧
    exec .ld_A_mDE s = .next (afterNext { s with a := s.memRead (joinBytes s.d s.e) } 1) ∧
    exec .ld_A_mHLinc s = .next (afterNext { s with
      a := s.memRead s.hl, h := hiByte (s.hl + 1#16), l := loByte (s.hl + 1#16) } 1) ∧
    exec .ld_A_mHLdec s = .next (afterNext { s with
      a := s.memRead s.hl, h := hiByte (s.hl - 1#16), l := loByte (s.hl - 1#16) } 1) ∧
    exec (.ldh_A_ma8 a8) s = .next (afterNext { s with
      a := s.memRead (BitVec.ofNat 16 (0xFF00 + a8.toNat)) } 2) ∧
    exec .ld_A_mC s = .next (afterNext { s with
      a := s.memRead (BitVec.ofNat 16 (0xFF00 + s.c.toNat)) } 1) ∧
    exec (.ld_A_ma16 a16) s = .next (afterNext { s with a := s.memRead a16 } 3)

/-- The byte at BC, DE, HL, 0xFF00 + a8, 0xFF00 + C or a16 becomes A (its low bits at IF and IE);
the HL+ and HL- forms then step HL by one mod 65536; every other byte, register and flag is as
before. Tier G: the spec takes these instructions from general knowledge, its decision D1.
(R225, R226, R229, R230, R233, R235, R237, derived.) -/
def Obligations.StoreAccumulatorToMemory : Prop :=
  ∀ (s : State) (a8 : Byte) (a16 : Word),
    encode .ld_mBC_A = [0x02#8] ∧ encode .ld_mDE_A = [0x12#8] ∧
    encode .ld_mHLinc_A = [0x22#8] ∧ encode .ld_mHLdec_A = [0x32#8] ∧
    encode (.ldh_ma8_A a8) = [0xE0#8, a8] ∧ encode .ld_mC_A = [0xE2#8] ∧
    encode (.ld_ma16_A a16) = [0xEA#8, loByte a16, hiByte a16] ∧
    (∃ t, exec .ld_mBC_A s = .next t ∧ SameButBus (afterNext s 1) t ∧
      StoredByte s t (joinBytes s.b s.c) s.a) ∧
    (∃ t, exec .ld_mDE_A s = .next t ∧ SameButBus (afterNext s 1) t ∧
      StoredByte s t (joinBytes s.d s.e) s.a) ∧
    (∃ t, exec .ld_mHLinc_A s = .next t ∧
      SameButBus (afterNext { s with h := hiByte (s.hl + 1#16), l := loByte (s.hl + 1#16) } 1) t ∧
      StoredByte s t s.hl s.a) ∧
    (∃ t, exec .ld_mHLdec_A s = .next t ∧
      SameButBus (afterNext { s with h := hiByte (s.hl - 1#16), l := loByte (s.hl - 1#16) } 1) t ∧
      StoredByte s t s.hl s.a) ∧
    (∃ t, exec (.ldh_ma8_A a8) s = .next t ∧ SameButBus (afterNext s 2) t ∧
      StoredByte s t (BitVec.ofNat 16 (0xFF00 + a8.toNat)) s.a) ∧
    (∃ t, exec .ld_mC_A s = .next t ∧ SameButBus (afterNext s 1) t ∧
      StoredByte s t (BitVec.ofNat 16 (0xFF00 + s.c.toNat)) s.a) ∧
    (∃ t, exec (.ld_ma16_A a16) s = .next t ∧ SameButBus (afterNext s 3) t ∧
      StoredByte s t a16 s.a)

/-- BC, DE, HL or SP becomes the 16-bit immediate (low byte first in the instruction); LD SP,HL
makes SP the value of HL. Nothing else is written. (R260, R261.) -/
def Obligations.LoadPair : Prop :=
  ∀ (d16 : Word) (s : State),
    encode (Forms.ldPair .bc d16) = [0x01#8, loByte d16, hiByte d16] ∧
    encode (Forms.ldPair .de d16) = [0x11#8, loByte d16, hiByte d16] ∧
    encode (Forms.ldPair .hl d16) = [0x21#8, loByte d16, hiByte d16] ∧
    encode (Forms.ldPair .sp d16) = [0x31#8, loByte d16, hiByte d16] ∧
    encode .ld_SP_HL = [0xF9#8] ∧
    exec (Forms.ldPair .bc d16) s =
      .next (afterNext { s with b := hiByte d16, c := loByte d16 } 3) ∧
    exec (Forms.ldPair .de d16) s =
      .next (afterNext { s with d := hiByte d16, e := loByte d16 } 3) ∧
    exec (Forms.ldPair .hl d16) s =
      .next (afterNext { s with h := hiByte d16, l := loByte d16 } 3) ∧
    exec (Forms.ldPair .sp d16) s = .next (afterNext { s with sp := d16 } 3) ∧
    exec .ld_SP_HL s = .next (afterNext { s with sp := joinBytes s.h s.l } 1)

/-- The byte at a16 becomes the low byte of SP and the byte at a16 + 1 mod 65536 the high byte
(their low bits at IF and IE); SP, every other byte, every register and flag is as before.
(R262.) -/
def Obligations.StoreStackPointer : Prop :=
  ∀ (a16 : Word) (s : State),
    encode (.ld_ma16_SP a16) = [0x08#8, loByte a16, hiByte a16] ∧
    ∃ t, exec (.ld_ma16_SP a16) s = .next t ∧ SameButBus (afterNext s 3) t ∧
      StoredTwo s t a16 (BitVec.ofNat 8 (s.sp.toNat % 256))
        (a16 + 1#16) (BitVec.ofNat 8 (s.sp.toNat / 256)) ∧
      dataAccesses s (.ld_ma16_SP a16) =
        [.write a16 (loByte s.sp), .write (a16 + 1#16) (hiByte s.sp)]

/-- For BC, DE, HL and AF (whose low byte is F with its low nibble 0): the byte at SP-1 becomes the
high register, the byte at SP-2 the low one, SP is two lower; the pair, the flags, every other
register and every other byte is as before. (R264.) -/
def Obligations.PushPair : Prop :=
  ∀ (p : StackPair) (s : State),
    encode (Forms.push p) = [opByte (0xC5 + 16 * stackCode p)] ∧
    ∃ t, exec (Forms.push p) s = .next t ∧
      SameButBus (afterNext { s with sp := s.sp - 2#16 } 1) t ∧
      (match p with
       | .bc => StoredTwo s t (s.sp - 1#16) s.b (s.sp - 2#16) s.c
       | .de => StoredTwo s t (s.sp - 1#16) s.d (s.sp - 2#16) s.e
       | .hl => StoredTwo s t (s.sp - 1#16) s.h (s.sp - 2#16) s.l
       | .af => StoredTwo s t (s.sp - 1#16) s.a (s.sp - 2#16) (s.f &&& 0xF0#8))

/-- The low register becomes the byte at SP and the high register the byte at SP+1, SP is two
higher; POP AF masks the low nibble of F; no memory is written and nothing else changes. (R265,
R267.) -/
def Obligations.PopPair : Prop :=
  ∀ s : State,
    (∀ p, encode (Forms.pop p) = [opByte (0xC1 + 16 * stackCode p)]) ∧
    exec (Forms.pop .bc) s = .next (afterNext { s with
      b := s.memRead (s.sp + 1#16), c := s.memRead s.sp, sp := s.sp + 2#16 } 1) ∧
    exec (Forms.pop .de) s = .next (afterNext { s with
      d := s.memRead (s.sp + 1#16), e := s.memRead s.sp, sp := s.sp + 2#16 } 1) ∧
    exec (Forms.pop .hl) s = .next (afterNext { s with
      h := s.memRead (s.sp + 1#16), l := s.memRead s.sp, sp := s.sp + 2#16 } 1) ∧
    exec (Forms.pop .af) s = .next (afterNext { s with
      a := s.memRead (s.sp + 1#16), f := s.memRead s.sp &&& 0xF0#8, sp := s.sp + 2#16 } 1)

/-- NZ is Z = 0, Z is Z = 1, NC is C = 0, C is C = 1, with Z and C bits 7 and 4 of F. (R280.) -/
def Obligations.Conditions : Prop :=
  ∀ s : State,
    (s.cond .nz = true ↔ s.f.getLsbD 7 = false) ∧ (s.cond .z = true ↔ s.f.getLsbD 7 = true) ∧
    (s.cond .nc = true ↔ s.f.getLsbD 4 = false) ∧ (s.cond .c = true ↔ s.f.getLsbD 4 = true)

/-- JP a16: PC is a16. JP cc,a16: PC is a16 if the condition holds, else next (3 bytes). Nothing
else is written. (R281, R282.) -/
def Obligations.Jump : Prop :=
  ∀ (s : State) (cc : Cond) (a16 : Word),
    encode (.jp_a16 a16) = [0xC3#8, loByte a16, hiByte a16] ∧
    encode (Forms.jpCond cc a16) = [opByte (0xC2 + 8 * condCode cc), loByte a16, hiByte a16] ∧
    exec (.jp_a16 a16) s = .next { s with pc := a16, haltBug := false } ∧
    exec (Forms.jpCond cc a16) s =
      .next { s with pc := if s.cond cc then a16 else s.next 3, haltBug := false }

/-- JR e8: PC is (next + sext_16(e)) mod 65536, next after 2 bytes. JR cc,e8: the same if the
condition holds, else next. Nothing else is written. (R283, R284.) -/
def Obligations.RelativeJump : Prop :=
  ∀ (s : State) (cc : Cond) (e8 : Byte),
    encode (.jr_e8 e8) = [0x18#8, e8] ∧
    encode (Forms.jrCond cc e8) = [opByte (0x20 + 8 * condCode cc), e8] ∧
    exec (.jr_e8 e8) s = .next { s with pc := s.next 2 + sext16 e8, haltBug := false } ∧
    exec (Forms.jrCond cc e8) s = .next { s with
      pc := if s.cond cc then s.next 2 + sext16 e8 else s.next 2, haltBug := false }

/-- CALL a16, and CALL cc,a16 with its condition true: the high byte of next goes to SP-1, the low
byte to SP-2, SP is two lower, PC is the target. CALL cc,a16 with its condition false: PC is
next and nothing else changes. Every other byte, register and flag is as before. (R285, R286.) -/
def Obligations.Call : Prop :=
  (∀ (s : State) (a16 : Word),
    encode (.call_a16 a16) = [0xCD#8, loByte a16, hiByte a16] ∧
    ∃ t, exec (.call_a16 a16) s = .next t ∧
      SameButBus { s with sp := s.sp - 2#16, pc := a16, haltBug := false } t ∧
      StoredTwo s t (s.sp - 1#16) (hiByte (s.next 3)) (s.sp - 2#16) (loByte (s.next 3))) ∧
  (∀ (s : State) (cc : Cond) (a16 : Word),
    encode (Forms.callCond cc a16) = [opByte (0xC4 + 8 * condCode cc), loByte a16, hiByte a16] ∧
    (s.cond cc = true → ∃ t, exec (Forms.callCond cc a16) s = .next t ∧
      SameButBus { s with sp := s.sp - 2#16, pc := a16, haltBug := false } t ∧
      StoredTwo s t (s.sp - 1#16) (hiByte (s.next 3)) (s.sp - 2#16) (loByte (s.next 3))) ∧
    (s.cond cc = false → exec (Forms.callCond cc a16) s = .next (afterNext s 3)))

/-- RET: PC is the word at SP (low byte at SP), SP two higher. RET cc: the same if the condition
holds, else PC is next, SP is kept and the stack is not read. IME is kept and nothing else is
written. (R287, R288.) -/
def Obligations.Return : Prop :=
  ∀ (s : State) (cc : Cond),
    encode .ret = [0xC9#8] ∧
    encode (Forms.retCond cc) = [opByte (0xC0 + 8 * condCode cc)] ∧
    exec .ret s = .next { s with
      pc := joinBytes (s.memRead (s.sp + 1#16)) (s.memRead s.sp), sp := s.sp + 2#16
      haltBug := false } ∧
    (s.cond cc = true → exec (Forms.retCond cc) s = .next { s with
      pc := joinBytes (s.memRead (s.sp + 1#16)) (s.memRead s.sp), sp := s.sp + 2#16
      haltBug := false }) ∧
    (s.cond cc = false → exec (Forms.retCond cc) s = .next (afterNext s 1) ∧
      dataAccesses s (Forms.retCond cc) = [])

/-- JP HL: PC is the value of HL, no memory read. RST 8y: the high byte of next goes to SP-1, the
low byte to SP-2, SP is two lower, PC is 8y. RETI: PC is the word at SP (low byte at SP), SP two
higher, IME is 1 at once, IME_scheduled is kept. Every other byte, register and flag is as
before. Tier G: the spec takes these instructions from general knowledge, its decision D1.
(R289, R290, R291, derived.) -/
def Obligations.JumpHLRestartReturnEnable : Prop :=
  (∀ s : State, encode .jp_HL = [0xE9#8] ∧ encode .reti = [0xD9#8] ∧
    exec .jp_HL s = .next { s with pc := joinBytes s.h s.l, haltBug := false } ∧
    dataAccesses s .jp_HL = [] ∧
    exec .reti s = .next { s with
      pc := joinBytes (s.memRead (s.sp + 1#16)) (s.memRead s.sp), sp := s.sp + 2#16
      haltBug := false, ime := true }) ∧
  (∀ (s : State) (y : Oct),
    encode (Forms.rst y) = [opByte (0xC7 + 8 * y.toNat)] ∧
    ∃ t, exec (Forms.rst y) s = .next t ∧
      SameButBus
        { s with sp := s.sp - 2#16, pc := BitVec.ofNat 16 (8 * y.toNat), haltBug := false } t ∧
      StoredTwo s t (s.sp - 1#16) (hiByte (s.next 1)) (s.sp - 2#16) (loByte (s.next 1)))

/-- NOP: PC is next, nothing else. EI: IME_scheduled is 1, IME is kept. DI: IME and IME_scheduled
are 0. In each PC is next and nothing else is written. (The promotion after the following
instruction is DelayedEnable.) (R310, R312, R313.) -/
def Obligations.NopAndInterruptEnables : Prop :=
  ∀ s : State,
    encode .nop = [0x00#8] ∧ encode .ei = [0xFB#8] ∧ encode .di = [0xF3#8] ∧
    exec .nop s = .next (afterNext s 1) ∧
    exec .ei s = .next (afterNext { s with imeScheduled := true } 1) ∧
    exec .di s = .next (afterNext { s with ime := false, imeScheduled := false } 1)

/-- With IME 1, or with IME 0 and pending 0: halted is 1. With IME 0 and pending not 0: halt_bug is
1 and halted is kept (0 in a running core). PC is next in all three cases and nothing else is
written. (R311.) -/
def Obligations.HaltThreeCases : Prop :=
  ∀ s : State, encode .halt = [0x76#8] ∧
    (s.ime = true → exec .halt s = .next { afterNext s 1 with halted := true }) ∧
    (s.ime = false → s.ieStored &&& s.ifStored.zeroExtend 8 = 0#8 →
      exec .halt s = .next { afterNext s 1 with halted := true }) ∧
    (s.ime = false → s.ieStored &&& s.ifStored.zeroExtend 8 ≠ 0#8 →
      exec .halt s = .next { afterNext s 1 with haltBug := true })

/-- The register becomes the result of the rotate or shift (as a number: shiftNumber), Z is whether
it is 0, N and H are 0, C is the bit moved out (0 for SWAP). Nothing else is written. Tier G:
the spec takes these instructions from general knowledge, its decision D3. (R320, R322, R324,
R326, R328, R330, R332, R334, R342, derived.) -/
def Obligations.RotateAndShiftRegister : Prop :=
  ∀ (op : ShiftOp) (r : Reg8) (s : State),
    encode (Forms.shift op (.reg r)) =
      [0xCB#8, opByte (8 * shiftCode op + operandCode (.reg r))] ∧
    exec (Forms.shift op (.reg r)) s = .next (
      let res := shiftNumber op (s.reg r).toNat s.flagC.toNat
      afterFlags (s.setReg r (BitVec.ofNat 8 res)) 2 (decide (res = 0)) false false
        (shiftedOut op (s.reg r).toNat))

/-- The byte at HL becomes the result (its low bits at IF and IE), Z is whether the result is 0, N
and H are 0, C is the bit moved out (0 for SWAP). Every other byte and register is as before.
Tier G: the spec takes these instructions from general knowledge, its decision D3. (R321, R323,
R325, R327, R329, R331, R333, R335, R342, derived.) -/
def Obligations.RotateAndShiftMemory : Prop :=
  ∀ (op : ShiftOp) (s : State),
    encode (Forms.shift op .mHL) = [0xCB#8, opByte (8 * shiftCode op + 6)] ∧
    ∃ t, exec (Forms.shift op .mHL) s = .next t ∧
      SameButBus (afterFlags s 2
        (decide (shiftNumber op (s.memRead s.hl).toNat s.flagC.toNat = 0)) false false
        (shiftedOut op (s.memRead s.hl).toNat)) t ∧
      StoredByte s t s.hl
        (BitVec.ofNat 8 (shiftNumber op (s.memRead s.hl).toNat s.flagC.toNat)) ∧
      dataAccesses s (Forms.shift op .mHL) = [.read s.hl, .write s.hl
        (BitVec.ofNat 8 (shiftNumber op (s.memRead s.hl).toNat s.flagC.toNat))]

/-- For every bit number and every register or the byte at HL: Z is 1 when bit b of the operand is
0, N is 0, H is 1, C is kept. Nothing else is written; the (HL) form makes one read. Tier G: the
spec takes these instructions from general knowledge, its decision D3. (R336, R337, derived.) -/
def Obligations.TestBit : Prop :=
  ∀ (b : Oct) (r : Operand8) (s : State),
    encode (Forms.bit b r) = [0xCB#8, opByte (0x40 + 8 * b.toNat + operandCode r)] ∧
    exec (Forms.bit b r) s = .next (afterFlags s 2
      (decide ((s.operand r).toNat / 2 ^ b.toNat % 2 = 0)) false true s.flagC) ∧
    dataAccesses s (Forms.bit b .mHL) = [.read s.hl]

/-- For every bit number: the register, or the byte at HL (its low bits at IF and IE), becomes the
operand with bit b 0 (RES) or 1 (SET). No flag, no other register and no other byte changes.
Tier G: the spec takes these instructions from general knowledge, its decision D3. (R338, R339,
R340, R341, derived.) -/
def Obligations.ResetAndSetBit : Prop :=
  (∀ (b : Oct) (r : Reg8) (s : State),
    encode (Forms.res b (.reg r)) = [0xCB#8, opByte (0x80 + 8 * b.toNat + operandCode (.reg r))] ∧
    encode (Forms.set b (.reg r)) = [0xCB#8, opByte (0xC0 + 8 * b.toNat + operandCode (.reg r))] ∧
    exec (Forms.res b (.reg r)) s =
      .next (afterNext (s.setReg r (s.reg r &&& ~~~(1#8 <<< b.toNat))) 2) ∧
    exec (Forms.set b (.reg r)) s =
      .next (afterNext (s.setReg r (s.reg r ||| 1#8 <<< b.toNat)) 2)) ∧
  (∀ (b : Oct) (s : State),
    encode (Forms.res b .mHL) = [0xCB#8, opByte (0x86 + 8 * b.toNat)] ∧
    encode (Forms.set b .mHL) = [0xCB#8, opByte (0xC6 + 8 * b.toNat)] ∧
    (∃ t, exec (Forms.res b .mHL) s = .next t ∧ SameButBus (afterNext s 2) t ∧
      StoredByte s t s.hl (s.memRead s.hl &&& ~~~(1#8 <<< b.toNat))) ∧
    (∃ t, exec (Forms.set b .mHL) s = .next t ∧ SameButBus (afterNext s 2) t ∧
      StoredByte s t s.hl (s.memRead s.hl ||| 1#8 <<< b.toNat)))
end

