-- ==== Sys2Proof/Laws/State.lean ====
section
/-! SUPPORT. One lemma for each field of the state and each update of Machine/Ops.lean, so that no proof
unfolds an update. -/

namespace Sys2Proof.Machine

variable (s : State)

/-! ### `setReg` -/

@[simp] theorem State.setReg_f (r : Reg8) (v : Byte) : (s.setReg r v).f = s.f := by cases r <;> rfl
@[simp] theorem State.setReg_pc (r : Reg8) (v : Byte) : (s.setReg r v).pc = s.pc := by cases r <;> rfl
@[simp] theorem State.setReg_sp (r : Reg8) (v : Byte) : (s.setReg r v).sp = s.sp := by cases r <;> rfl
@[simp] theorem State.setReg_halted (r : Reg8) (v : Byte) : (s.setReg r v).halted = s.halted := by cases r <;> rfl
@[simp] theorem State.setReg_ime (r : Reg8) (v : Byte) : (s.setReg r v).ime = s.ime := by cases r <;> rfl
@[simp] theorem State.setReg_imeScheduled (r : Reg8) (v : Byte) : (s.setReg r v).imeScheduled = s.imeScheduled := by cases r <;> rfl
@[simp] theorem State.setReg_haltBug (r : Reg8) (v : Byte) : (s.setReg r v).haltBug = s.haltBug := by cases r <;> rfl
@[simp] theorem State.setReg_ifStored (r : Reg8) (v : Byte) : (s.setReg r v).ifStored = s.ifStored := by cases r <;> rfl
@[simp] theorem State.setReg_ieStored (r : Reg8) (v : Byte) : (s.setReg r v).ieStored = s.ieStored := by cases r <;> rfl
@[simp] theorem State.setReg_mem (r : Reg8) (v : Byte) : (s.setReg r v).mem = s.mem := by cases r <;> rfl
@[simp] theorem State.setReg_fault (r : Reg8) (v : Byte) : (s.setReg r v).fault = s.fault := by cases r <;> rfl
@[simp] theorem State.setReg_cfg (r : Reg8) (v : Byte) : (s.setReg r v).cfg = s.cfg := by cases r <;> rfl
@[simp] theorem State.setReg_memRead (r : Reg8) (v : Byte) (y : Word) : (s.setReg r v).memRead y = s.memRead y := by cases r <;> rfl

/-! ### `setF` -/

@[simp] theorem State.setF_a (v : Byte) : (s.setF v).a = s.a := rfl
@[simp] theorem State.setF_b (v : Byte) : (s.setF v).b = s.b := rfl
@[simp] theorem State.setF_c (v : Byte) : (s.setF v).c = s.c := rfl
@[simp] theorem State.setF_d (v : Byte) : (s.setF v).d = s.d := rfl
@[simp] theorem State.setF_e (v : Byte) : (s.setF v).e = s.e := rfl
@[simp] theorem State.setF_h (v : Byte) : (s.setF v).h = s.h := rfl
@[simp] theorem State.setF_l (v : Byte) : (s.setF v).l = s.l := rfl
@[simp] theorem State.setF_pc (v : Byte) : (s.setF v).pc = s.pc := rfl
@[simp] theorem State.setF_sp (v : Byte) : (s.setF v).sp = s.sp := rfl
@[simp] theorem State.setF_halted (v : Byte) : (s.setF v).halted = s.halted := rfl
@[simp] theorem State.setF_ime (v : Byte) : (s.setF v).ime = s.ime := rfl
@[simp] theorem State.setF_imeScheduled (v : Byte) : (s.setF v).imeScheduled = s.imeScheduled := rfl
@[simp] theorem State.setF_haltBug (v : Byte) : (s.setF v).haltBug = s.haltBug := rfl
@[simp] theorem State.setF_ifStored (v : Byte) : (s.setF v).ifStored = s.ifStored := rfl
@[simp] theorem State.setF_ieStored (v : Byte) : (s.setF v).ieStored = s.ieStored := rfl
@[simp] theorem State.setF_mem (v : Byte) : (s.setF v).mem = s.mem := rfl
@[simp] theorem State.setF_fault (v : Byte) : (s.setF v).fault = s.fault := rfl
@[simp] theorem State.setF_cfg (v : Byte) : (s.setF v).cfg = s.cfg := rfl
@[simp] theorem State.setF_f (v : Byte) : (s.setF v).f = v &&& 0xF0#8 := rfl
@[simp] theorem State.setF_memRead (v : Byte) (y : Word) : (s.setF v).memRead y = s.memRead y := rfl

/-! ### `setFlags` -/

@[simp] theorem State.setFlags_a (z n h c : Bool) : (s.setFlags z n h c).a = s.a := rfl
@[simp] theorem State.setFlags_b (z n h c : Bool) : (s.setFlags z n h c).b = s.b := rfl
@[simp] theorem State.setFlags_c (z n h c : Bool) : (s.setFlags z n h c).c = s.c := rfl
@[simp] theorem State.setFlags_d (z n h c : Bool) : (s.setFlags z n h c).d = s.d := rfl
@[simp] theorem State.setFlags_e (z n h c : Bool) : (s.setFlags z n h c).e = s.e := rfl
@[simp] theorem State.setFlags_h (z n h c : Bool) : (s.setFlags z n h c).h = s.h := rfl
@[simp] theorem State.setFlags_l (z n h c : Bool) : (s.setFlags z n h c).l = s.l := rfl
@[simp] theorem State.setFlags_pc (z n h c : Bool) : (s.setFlags z n h c).pc = s.pc := rfl
@[simp] theorem State.setFlags_sp (z n h c : Bool) : (s.setFlags z n h c).sp = s.sp := rfl
@[simp] theorem State.setFlags_halted (z n h c : Bool) : (s.setFlags z n h c).halted = s.halted := rfl
@[simp] theorem State.setFlags_ime (z n h c : Bool) : (s.setFlags z n h c).ime = s.ime := rfl
@[simp] theorem State.setFlags_imeScheduled (z n h c : Bool) : (s.setFlags z n h c).imeScheduled = s.imeScheduled := rfl
@[simp] theorem State.setFlags_haltBug (z n h c : Bool) : (s.setFlags z n h c).haltBug = s.haltBug := rfl
@[simp] theorem State.setFlags_ifStored (z n h c : Bool) : (s.setFlags z n h c).ifStored = s.ifStored := rfl
@[simp] theorem State.setFlags_ieStored (z n h c : Bool) : (s.setFlags z n h c).ieStored = s.ieStored := rfl
@[simp] theorem State.setFlags_mem (z n h c : Bool) : (s.setFlags z n h c).mem = s.mem := rfl
@[simp] theorem State.setFlags_fault (z n h c : Bool) : (s.setFlags z n h c).fault = s.fault := rfl
@[simp] theorem State.setFlags_cfg (z n h c : Bool) : (s.setFlags z n h c).cfg = s.cfg := rfl
@[simp] theorem State.setFlags_f (z n h c : Bool) : (s.setFlags z n h c).f = flagByte z n h c &&& 0xF0#8 := rfl
@[simp] theorem State.setFlags_memRead (z n h c : Bool) (y : Word) : (s.setFlags z n h c).memRead y = s.memRead y := rfl

/-! ### `setAF` -/

@[simp] theorem State.setAF_b (v : Word) : (s.setAF v).b = s.b := rfl
@[simp] theorem State.setAF_c (v : Word) : (s.setAF v).c = s.c := rfl
@[simp] theorem State.setAF_d (v : Word) : (s.setAF v).d = s.d := rfl
@[simp] theorem State.setAF_e (v : Word) : (s.setAF v).e = s.e := rfl
@[simp] theorem State.setAF_h (v : Word) : (s.setAF v).h = s.h := rfl
@[simp] theorem State.setAF_l (v : Word) : (s.setAF v).l = s.l := rfl
@[simp] theorem State.setAF_pc (v : Word) : (s.setAF v).pc = s.pc := rfl
@[simp] theorem State.setAF_sp (v : Word) : (s.setAF v).sp = s.sp := rfl
@[simp] theorem State.setAF_halted (v : Word) : (s.setAF v).halted = s.halted := rfl
@[simp] theorem State.setAF_ime (v : Word) : (s.setAF v).ime = s.ime := rfl
@[simp] theorem State.setAF_imeScheduled (v : Word) : (s.setAF v).imeScheduled = s.imeScheduled := rfl
@[simp] theorem State.setAF_haltBug (v : Word) : (s.setAF v).haltBug = s.haltBug := rfl
@[simp] theorem State.setAF_ifStored (v : Word) : (s.setAF v).ifStored = s.ifStored := rfl
@[simp] theorem State.setAF_ieStored (v : Word) : (s.setAF v).ieStored = s.ieStored := rfl
@[simp] theorem State.setAF_mem (v : Word) : (s.setAF v).mem = s.mem := rfl
@[simp] theorem State.setAF_fault (v : Word) : (s.setAF v).fault = s.fault := rfl
@[simp] theorem State.setAF_cfg (v : Word) : (s.setAF v).cfg = s.cfg := rfl
@[simp] theorem State.setAF_a (v : Word) : (s.setAF v).a = hiByte v := rfl
@[simp] theorem State.setAF_f (v : Word) : (s.setAF v).f = loByte v &&& 0xF0#8 := rfl
@[simp] theorem State.setAF_memRead (v : Word) (y : Word) : (s.setAF v).memRead y = s.memRead y := rfl

/-! ### `setBC` -/

@[simp] theorem State.setBC_a (v : Word) : (s.setBC v).a = s.a := rfl
@[simp] theorem State.setBC_d (v : Word) : (s.setBC v).d = s.d := rfl
@[simp] theorem State.setBC_e (v : Word) : (s.setBC v).e = s.e := rfl
@[simp] theorem State.setBC_h (v : Word) : (s.setBC v).h = s.h := rfl
@[simp] theorem State.setBC_l (v : Word) : (s.setBC v).l = s.l := rfl
@[simp] theorem State.setBC_f (v : Word) : (s.setBC v).f = s.f := rfl
@[simp] theorem State.setBC_pc (v : Word) : (s.setBC v).pc = s.pc := rfl
@[simp] theorem State.setBC_sp (v : Word) : (s.setBC v).sp = s.sp := rfl
@[simp] theorem State.setBC_halted (v : Word) : (s.setBC v).halted = s.halted := rfl
@[simp] theorem State.setBC_ime (v : Word) : (s.setBC v).ime = s.ime := rfl
@[simp] theorem State.setBC_imeScheduled (v : Word) : (s.setBC v).imeScheduled = s.imeScheduled := rfl
@[simp] theorem State.setBC_haltBug (v : Word) : (s.setBC v).haltBug = s.haltBug := rfl
@[simp] theorem State.setBC_ifStored (v : Word) : (s.setBC v).ifStored = s.ifStored := rfl
@[simp] theorem State.setBC_ieStored (v : Word) : (s.setBC v).ieStored = s.ieStored := rfl
@[simp] theorem State.setBC_mem (v : Word) : (s.setBC v).mem = s.mem := rfl
@[simp] theorem State.setBC_fault (v : Word) : (s.setBC v).fault = s.fault := rfl
@[simp] theorem State.setBC_cfg (v : Word) : (s.setBC v).cfg = s.cfg := rfl
@[simp] theorem State.setBC_b (v : Word) : (s.setBC v).b = hiByte v := rfl
@[simp] theorem State.setBC_c (v : Word) : (s.setBC v).c = loByte v := rfl
@[simp] theorem State.setBC_memRead (v : Word) (y : Word) : (s.setBC v).memRead y = s.memRead y := rfl

/-! ### `setDE` -/

@[simp] theorem State.setDE_a (v : Word) : (s.setDE v).a = s.a := rfl
@[simp] theorem State.setDE_b (v : Word) : (s.setDE v).b = s.b := rfl
@[simp] theorem State.setDE_c (v : Word) : (s.setDE v).c = s.c := rfl
@[simp] theorem State.setDE_h (v : Word) : (s.setDE v).h = s.h := rfl
@[simp] theorem State.setDE_l (v : Word) : (s.setDE v).l = s.l := rfl
@[simp] theorem State.setDE_f (v : Word) : (s.setDE v).f = s.f := rfl
@[simp] theorem State.setDE_pc (v : Word) : (s.setDE v).pc = s.pc := rfl
@[simp] theorem State.setDE_sp (v : Word) : (s.setDE v).sp = s.sp := rfl
@[simp] theorem State.setDE_halted (v : Word) : (s.setDE v).halted = s.halted := rfl
@[simp] theorem State.setDE_ime (v : Word) : (s.setDE v).ime = s.ime := rfl
@[simp] theorem State.setDE_imeScheduled (v : Word) : (s.setDE v).imeScheduled = s.imeScheduled := rfl
@[simp] theorem State.setDE_haltBug (v : Word) : (s.setDE v).haltBug = s.haltBug := rfl
@[simp] theorem State.setDE_ifStored (v : Word) : (s.setDE v).ifStored = s.ifStored := rfl
@[simp] theorem State.setDE_ieStored (v : Word) : (s.setDE v).ieStored = s.ieStored := rfl
@[simp] theorem State.setDE_mem (v : Word) : (s.setDE v).mem = s.mem := rfl
@[simp] theorem State.setDE_fault (v : Word) : (s.setDE v).fault = s.fault := rfl
@[simp] theorem State.setDE_cfg (v : Word) : (s.setDE v).cfg = s.cfg := rfl
@[simp] theorem State.setDE_d (v : Word) : (s.setDE v).d = hiByte v := rfl
@[simp] theorem State.setDE_e (v : Word) : (s.setDE v).e = loByte v := rfl
@[simp] theorem State.setDE_memRead (v : Word) (y : Word) : (s.setDE v).memRead y = s.memRead y := rfl

/-! ### `setHL` -/

@[simp] theorem State.setHL_a (v : Word) : (s.setHL v).a = s.a := rfl
@[simp] theorem State.setHL_b (v : Word) : (s.setHL v).b = s.b := rfl
@[simp] theorem State.setHL_c (v : Word) : (s.setHL v).c = s.c := rfl
@[simp] theorem State.setHL_d (v : Word) : (s.setHL v).d = s.d := rfl
@[simp] theorem State.setHL_e (v : Word) : (s.setHL v).e = s.e := rfl
@[simp] theorem State.setHL_f (v : Word) : (s.setHL v).f = s.f := rfl
@[simp] theorem State.setHL_pc (v : Word) : (s.setHL v).pc = s.pc := rfl
@[simp] theorem State.setHL_sp (v : Word) : (s.setHL v).sp = s.sp := rfl
@[simp] theorem State.setHL_halted (v : Word) : (s.setHL v).halted = s.halted := rfl
@[simp] theorem State.setHL_ime (v : Word) : (s.setHL v).ime = s.ime := rfl
@[simp] theorem State.setHL_imeScheduled (v : Word) : (s.setHL v).imeScheduled = s.imeScheduled := rfl
@[simp] theorem State.setHL_haltBug (v : Word) : (s.setHL v).haltBug = s.haltBug := rfl
@[simp] theorem State.setHL_ifStored (v : Word) : (s.setHL v).ifStored = s.ifStored := rfl
@[simp] theorem State.setHL_ieStored (v : Word) : (s.setHL v).ieStored = s.ieStored := rfl
@[simp] theorem State.setHL_mem (v : Word) : (s.setHL v).mem = s.mem := rfl
@[simp] theorem State.setHL_fault (v : Word) : (s.setHL v).fault = s.fault := rfl
@[simp] theorem State.setHL_cfg (v : Word) : (s.setHL v).cfg = s.cfg := rfl
@[simp] theorem State.setHL_h (v : Word) : (s.setHL v).h = hiByte v := rfl
@[simp] theorem State.setHL_l (v : Word) : (s.setHL v).l = loByte v := rfl
@[simp] theorem State.setHL_memRead (v : Word) (y : Word) : (s.setHL v).memRead y = s.memRead y := rfl

/-! ### `setPair` -/

@[simp] theorem State.setPair_a (p : Pair16) (v : Word) : (s.setPair p v).a = s.a := by cases p <;> rfl
@[simp] theorem State.setPair_f (p : Pair16) (v : Word) : (s.setPair p v).f = s.f := by cases p <;> rfl
@[simp] theorem State.setPair_pc (p : Pair16) (v : Word) : (s.setPair p v).pc = s.pc := by cases p <;> rfl
@[simp] theorem State.setPair_halted (p : Pair16) (v : Word) : (s.setPair p v).halted = s.halted := by cases p <;> rfl
@[simp] theorem State.setPair_ime (p : Pair16) (v : Word) : (s.setPair p v).ime = s.ime := by cases p <;> rfl
@[simp] theorem State.setPair_imeScheduled (p : Pair16) (v : Word) : (s.setPair p v).imeScheduled = s.imeScheduled := by cases p <;> rfl
@[simp] theorem State.setPair_haltBug (p : Pair16) (v : Word) : (s.setPair p v).haltBug = s.haltBug := by cases p <;> rfl
@[simp] theorem State.setPair_ifStored (p : Pair16) (v : Word) : (s.setPair p v).ifStored = s.ifStored := by cases p <;> rfl
@[simp] theorem State.setPair_ieStored (p : Pair16) (v : Word) : (s.setPair p v).ieStored = s.ieStored := by cases p <;> rfl
@[simp] theorem State.setPair_mem (p : Pair16) (v : Word) : (s.setPair p v).mem = s.mem := by cases p <;> rfl
@[simp] theorem State.setPair_fault (p : Pair16) (v : Word) : (s.setPair p v).fault = s.fault := by cases p <;> rfl
@[simp] theorem State.setPair_cfg (p : Pair16) (v : Word) : (s.setPair p v).cfg = s.cfg := by cases p <;> rfl
@[simp] theorem State.setPair_memRead (p : Pair16) (v : Word) (y : Word) : (s.setPair p v).memRead y = s.memRead y := by cases p <;> rfl

/-! ### `setStackPair` -/

@[simp] theorem State.setStackPair_pc (p : StackPair) (v : Word) : (s.setStackPair p v).pc = s.pc := by cases p <;> rfl
@[simp] theorem State.setStackPair_sp (p : StackPair) (v : Word) : (s.setStackPair p v).sp = s.sp := by cases p <;> rfl
@[simp] theorem State.setStackPair_halted (p : StackPair) (v : Word) : (s.setStackPair p v).halted = s.halted := by cases p <;> rfl
@[simp] theorem State.setStackPair_ime (p : StackPair) (v : Word) : (s.setStackPair p v).ime = s.ime := by cases p <;> rfl
@[simp] theorem State.setStackPair_imeScheduled (p : StackPair) (v : Word) : (s.setStackPair p v).imeScheduled = s.imeScheduled := by cases p <;> rfl
@[simp] theorem State.setStackPair_haltBug (p : StackPair) (v : Word) : (s.setStackPair p v).haltBug = s.haltBug := by cases p <;> rfl
@[simp] theorem State.setStackPair_ifStored (p : StackPair) (v : Word) : (s.setStackPair p v).ifStored = s.ifStored := by cases p <;> rfl
@[simp] theorem State.setStackPair_ieStored (p : StackPair) (v : Word) : (s.setStackPair p v).ieStored = s.ieStored := by cases p <;> rfl
@[simp] theorem State.setStackPair_mem (p : StackPair) (v : Word) : (s.setStackPair p v).mem = s.mem := by cases p <;> rfl
@[simp] theorem State.setStackPair_fault (p : StackPair) (v : Word) : (s.setStackPair p v).fault = s.fault := by cases p <;> rfl
@[simp] theorem State.setStackPair_cfg (p : StackPair) (v : Word) : (s.setStackPair p v).cfg = s.cfg := by cases p <;> rfl
@[simp] theorem State.setStackPair_memRead (p : StackPair) (v : Word) (y : Word) : (s.setStackPair p v).memRead y = s.memRead y := by cases p <;> rfl

/-! ### `advance` -/

@[simp] theorem State.advance_a (n : Nat) : (s.advance n).a = s.a := rfl
@[simp] theorem State.advance_b (n : Nat) : (s.advance n).b = s.b := rfl
@[simp] theorem State.advance_c (n : Nat) : (s.advance n).c = s.c := rfl
@[simp] theorem State.advance_d (n : Nat) : (s.advance n).d = s.d := rfl
@[simp] theorem State.advance_e (n : Nat) : (s.advance n).e = s.e := rfl
@[simp] theorem State.advance_h (n : Nat) : (s.advance n).h = s.h := rfl
@[simp] theorem State.advance_l (n : Nat) : (s.advance n).l = s.l := rfl
@[simp] theorem State.advance_f (n : Nat) : (s.advance n).f = s.f := rfl
@[simp] theorem State.advance_sp (n : Nat) : (s.advance n).sp = s.sp := rfl
@[simp] theorem State.advance_halted (n : Nat) : (s.advance n).halted = s.halted := rfl
@[simp] theorem State.advance_ime (n : Nat) : (s.advance n).ime = s.ime := rfl
@[simp] theorem State.advance_imeScheduled (n : Nat) : (s.advance n).imeScheduled = s.imeScheduled := rfl
@[simp] theorem State.advance_ifStored (n : Nat) : (s.advance n).ifStored = s.ifStored := rfl
@[simp] theorem State.advance_ieStored (n : Nat) : (s.advance n).ieStored = s.ieStored := rfl
@[simp] theorem State.advance_mem (n : Nat) : (s.advance n).mem = s.mem := rfl
@[simp] theorem State.advance_fault (n : Nat) : (s.advance n).fault = s.fault := rfl
@[simp] theorem State.advance_cfg (n : Nat) : (s.advance n).cfg = s.cfg := rfl
@[simp] theorem State.advance_pc (n : Nat) : (s.advance n).pc = s.next n := rfl
@[simp] theorem State.advance_haltBug (n : Nat) : (s.advance n).haltBug = false := rfl
@[simp] theorem State.advance_memRead (n : Nat) (y : Word) : (s.advance n).memRead y = s.memRead y := rfl

/-! ### `popped` -/

@[simp] theorem State.popped_a : (s.popped).a = s.a := rfl
@[simp] theorem State.popped_b : (s.popped).b = s.b := rfl
@[simp] theorem State.popped_c : (s.popped).c = s.c := rfl
@[simp] theorem State.popped_d : (s.popped).d = s.d := rfl
@[simp] theorem State.popped_e : (s.popped).e = s.e := rfl
@[simp] theorem State.popped_h : (s.popped).h = s.h := rfl
@[simp] theorem State.popped_l : (s.popped).l = s.l := rfl
@[simp] theorem State.popped_f : (s.popped).f = s.f := rfl
@[simp] theorem State.popped_pc : (s.popped).pc = s.pc := rfl
@[simp] theorem State.popped_halted : (s.popped).halted = s.halted := rfl
@[simp] theorem State.popped_ime : (s.popped).ime = s.ime := rfl
@[simp] theorem State.popped_imeScheduled : (s.popped).imeScheduled = s.imeScheduled := rfl
@[simp] theorem State.popped_haltBug : (s.popped).haltBug = s.haltBug := rfl
@[simp] theorem State.popped_ifStored : (s.popped).ifStored = s.ifStored := rfl
@[simp] theorem State.popped_ieStored : (s.popped).ieStored = s.ieStored := rfl
@[simp] theorem State.popped_mem : (s.popped).mem = s.mem := rfl
@[simp] theorem State.popped_fault : (s.popped).fault = s.fault := rfl
@[simp] theorem State.popped_cfg : (s.popped).cfg = s.cfg := rfl
@[simp] theorem State.popped_sp : s.popped.sp = s.sp + 2#16 := rfl
@[simp] theorem State.popped_memRead (y : Word) : (s.popped).memRead y = s.memRead y := rfl

/-! ### `returnPop` -/

@[simp] theorem State.returnPop_a : (s.returnPop).a = s.a := rfl
@[simp] theorem State.returnPop_b : (s.returnPop).b = s.b := rfl
@[simp] theorem State.returnPop_c : (s.returnPop).c = s.c := rfl
@[simp] theorem State.returnPop_d : (s.returnPop).d = s.d := rfl
@[simp] theorem State.returnPop_e : (s.returnPop).e = s.e := rfl
@[simp] theorem State.returnPop_h : (s.returnPop).h = s.h := rfl
@[simp] theorem State.returnPop_l : (s.returnPop).l = s.l := rfl
@[simp] theorem State.returnPop_f : (s.returnPop).f = s.f := rfl
@[simp] theorem State.returnPop_halted : (s.returnPop).halted = s.halted := rfl
@[simp] theorem State.returnPop_ime : (s.returnPop).ime = s.ime := rfl
@[simp] theorem State.returnPop_imeScheduled : (s.returnPop).imeScheduled = s.imeScheduled := rfl
@[simp] theorem State.returnPop_haltBug : (s.returnPop).haltBug = s.haltBug := rfl
@[simp] theorem State.returnPop_ifStored : (s.returnPop).ifStored = s.ifStored := rfl
@[simp] theorem State.returnPop_ieStored : (s.returnPop).ieStored = s.ieStored := rfl
@[simp] theorem State.returnPop_mem : (s.returnPop).mem = s.mem := rfl
@[simp] theorem State.returnPop_fault : (s.returnPop).fault = s.fault := rfl
@[simp] theorem State.returnPop_cfg : (s.returnPop).cfg = s.cfg := rfl
@[simp] theorem State.returnPop_sp : s.returnPop.sp = s.sp + 2#16 := rfl
@[simp] theorem State.returnPop_pc : s.returnPop.pc = s.popValue := rfl
@[simp] theorem State.returnPop_memRead (y : Word) : (s.returnPop).memRead y = s.memRead y := rfl

/-! ### `fail` -/

@[simp] theorem State.fail_a (b : Byte) (x : Word) (q : Bool) : (s.fail b x q).a = s.a := rfl
@[simp] theorem State.fail_b (b : Byte) (x : Word) (q : Bool) : (s.fail b x q).b = s.b := rfl
@[simp] theorem State.fail_c (b : Byte) (x : Word) (q : Bool) : (s.fail b x q).c = s.c := rfl
@[simp] theorem State.fail_d (b : Byte) (x : Word) (q : Bool) : (s.fail b x q).d = s.d := rfl
@[simp] theorem State.fail_e (b : Byte) (x : Word) (q : Bool) : (s.fail b x q).e = s.e := rfl
@[simp] theorem State.fail_h (b : Byte) (x : Word) (q : Bool) : (s.fail b x q).h = s.h := rfl
@[simp] theorem State.fail_l (b : Byte) (x : Word) (q : Bool) : (s.fail b x q).l = s.l := rfl
@[simp] theorem State.fail_f (b : Byte) (x : Word) (q : Bool) : (s.fail b x q).f = s.f := rfl
@[simp] theorem State.fail_pc (b : Byte) (x : Word) (q : Bool) : (s.fail b x q).pc = s.pc := rfl
@[simp] theorem State.fail_sp (b : Byte) (x : Word) (q : Bool) : (s.fail b x q).sp = s.sp := rfl
@[simp] theorem State.fail_halted (b : Byte) (x : Word) (q : Bool) : (s.fail b x q).halted = s.halted := rfl
@[simp] theorem State.fail_ime (b : Byte) (x : Word) (q : Bool) : (s.fail b x q).ime = s.ime := rfl
@[simp] theorem State.fail_imeScheduled (b : Byte) (x : Word) (q : Bool) : (s.fail b x q).imeScheduled = s.imeScheduled := rfl
@[simp] theorem State.fail_haltBug (b : Byte) (x : Word) (q : Bool) : (s.fail b x q).haltBug = s.haltBug := rfl
@[simp] theorem State.fail_ifStored (b : Byte) (x : Word) (q : Bool) : (s.fail b x q).ifStored = s.ifStored := rfl
@[simp] theorem State.fail_ieStored (b : Byte) (x : Word) (q : Bool) : (s.fail b x q).ieStored = s.ieStored := rfl
@[simp] theorem State.fail_mem (b : Byte) (x : Word) (q : Bool) : (s.fail b x q).mem = s.mem := rfl
@[simp] theorem State.fail_cfg (b : Byte) (x : Word) (q : Bool) : (s.fail b x q).cfg = s.cfg := rfl
@[simp] theorem State.fail_fault (b : Byte) (x : Word) (q : Bool) : (s.fail b x q).fault = some { byte := b, addr := x, wasPrefixed := q } := rfl
@[simp] theorem State.fail_memRead (b : Byte) (x : Word) (q : Bool) (y : Word) : (s.fail b x q).memRead y = s.memRead y := rfl

/-! ### `memWrite` -/

@[simp] theorem State.memWrite_a (x : Word) (v : Byte) : (s.memWrite x v).a = s.a := by unfold State.memWrite; split_ifs <;> rfl
@[simp] theorem State.memWrite_b (x : Word) (v : Byte) : (s.memWrite x v).b = s.b := by unfold State.memWrite; split_ifs <;> rfl
@[simp] theorem State.memWrite_c (x : Word) (v : Byte) : (s.memWrite x v).c = s.c := by unfold State.memWrite; split_ifs <;> rfl
@[simp] theorem State.memWrite_d (x : Word) (v : Byte) : (s.memWrite x v).d = s.d := by unfold State.memWrite; split_ifs <;> rfl
@[simp] theorem State.memWrite_e (x : Word) (v : Byte) : (s.memWrite x v).e = s.e := by unfold State.memWrite; split_ifs <;> rfl
@[simp] theorem State.memWrite_h (x : Word) (v : Byte) : (s.memWrite x v).h = s.h := by unfold State.memWrite; split_ifs <;> rfl
@[simp] theorem State.memWrite_l (x : Word) (v : Byte) : (s.memWrite x v).l = s.l := by unfold State.memWrite; split_ifs <;> rfl
@[simp] theorem State.memWrite_f (x : Word) (v : Byte) : (s.memWrite x v).f = s.f := by unfold State.memWrite; split_ifs <;> rfl
@[simp] theorem State.memWrite_pc (x : Word) (v : Byte) : (s.memWrite x v).pc = s.pc := by unfold State.memWrite; split_ifs <;> rfl
@[simp] theorem State.memWrite_sp (x : Word) (v : Byte) : (s.memWrite x v).sp = s.sp := by unfold State.memWrite; split_ifs <;> rfl
@[simp] theorem State.memWrite_halted (x : Word) (v : Byte) : (s.memWrite x v).halted = s.halted := by unfold State.memWrite; split_ifs <;> rfl
@[simp] theorem State.memWrite_ime (x : Word) (v : Byte) : (s.memWrite x v).ime = s.ime := by unfold State.memWrite; split_ifs <;> rfl
@[simp] theorem State.memWrite_imeScheduled (x : Word) (v : Byte) : (s.memWrite x v).imeScheduled = s.imeScheduled := by unfold State.memWrite; split_ifs <;> rfl
@[simp] theorem State.memWrite_haltBug (x : Word) (v : Byte) : (s.memWrite x v).haltBug = s.haltBug := by unfold State.memWrite; split_ifs <;> rfl
@[simp] theorem State.memWrite_fault (x : Word) (v : Byte) : (s.memWrite x v).fault = s.fault := by unfold State.memWrite; split_ifs <;> rfl
@[simp] theorem State.memWrite_cfg (x : Word) (v : Byte) : (s.memWrite x v).cfg = s.cfg := by unfold State.memWrite; split_ifs <;> rfl

/-! ### `push16` -/

@[simp] theorem State.push16_a (v : Word) : (s.push16 v).a = s.a := by simp [State.push16]
@[simp] theorem State.push16_b (v : Word) : (s.push16 v).b = s.b := by simp [State.push16]
@[simp] theorem State.push16_c (v : Word) : (s.push16 v).c = s.c := by simp [State.push16]
@[simp] theorem State.push16_d (v : Word) : (s.push16 v).d = s.d := by simp [State.push16]
@[simp] theorem State.push16_e (v : Word) : (s.push16 v).e = s.e := by simp [State.push16]
@[simp] theorem State.push16_h (v : Word) : (s.push16 v).h = s.h := by simp [State.push16]
@[simp] theorem State.push16_l (v : Word) : (s.push16 v).l = s.l := by simp [State.push16]
@[simp] theorem State.push16_f (v : Word) : (s.push16 v).f = s.f := by simp [State.push16]
@[simp] theorem State.push16_pc (v : Word) : (s.push16 v).pc = s.pc := by simp [State.push16]
@[simp] theorem State.push16_halted (v : Word) : (s.push16 v).halted = s.halted := by simp [State.push16]
@[simp] theorem State.push16_ime (v : Word) : (s.push16 v).ime = s.ime := by simp [State.push16]
@[simp] theorem State.push16_imeScheduled (v : Word) : (s.push16 v).imeScheduled = s.imeScheduled := by simp [State.push16]
@[simp] theorem State.push16_haltBug (v : Word) : (s.push16 v).haltBug = s.haltBug := by simp [State.push16]
@[simp] theorem State.push16_fault (v : Word) : (s.push16 v).fault = s.fault := by simp [State.push16]
@[simp] theorem State.push16_cfg (v : Word) : (s.push16 v).cfg = s.cfg := by simp [State.push16]

/-! ### Reads after writes of registers -/

@[simp] theorem State.setReg_reg_same (r : Reg8) (v : Byte) : (s.setReg r v).reg r = v := by
  cases r <;> rfl

theorem State.setReg_reg_other (r q : Reg8) (v : Byte) (hq : q ≠ r) :
    (s.setReg r v).reg q = s.reg q := by
  cases r <;> cases q <;> first | rfl | exact absurd rfl hq

@[simp] theorem State.advance_reg (n : Nat) (r : Reg8) : (s.advance n).reg r = s.reg r := by
  cases r <;> rfl

@[simp] theorem State.advance_pair (n : Nat) (p : Pair16) : (s.advance n).pair p = s.pair p := by
  cases p <;> rfl

@[simp] theorem State.advance_operand (n : Nat) (o : Operand8) :
    (s.advance n).operand o = s.operand o := by
  cases o with
  | reg r => exact State.advance_reg s n r
  | mHL => rfl

@[simp] theorem State.push16_sp (v : Word) : (s.push16 v).sp = s.sp - 2#16 := by
  simp only [State.push16, State.memWrite_sp]
  rw [BitVec.sub_sub]
  rfl

end Sys2Proof.Machine
end

