-- ==== Sys2Proof/Laws/Memory.lean ====
section
/-! SUPPORT. The memory as a list: a read after a write, and that every operation keeps the canonical form
(log entry 1). -/

namespace Sys2Proof.Machine

theorem Memory.lookup_store_same (m : Memory) (a : Nat) (v : Byte) :
    Memory.lookup (Memory.store m a v) a = some v := by
  induction m with
  | nil => simp [Memory.store, Memory.lookup]
  | cons x rest ih =>
    obtain ⟨k, w⟩ := x
    simp only [Memory.store]
    split
    · simp [Memory.lookup]
    · split
      · simp [Memory.lookup]
      · rename_i h
        simp [Memory.lookup, Ne.symm h, ih]

theorem Memory.lookup_store_other (m : Memory) (a x : Nat) (v : Byte) (h : x ≠ a) :
    Memory.lookup (Memory.store m a v) x = Memory.lookup m x := by
  induction m with
  | nil => simp [Memory.store, Memory.lookup, Ne.symm h]
  | cons y rest ih =>
    obtain ⟨k, w⟩ := y
    simp only [Memory.store]
    split
    · simp [Memory.lookup, Ne.symm h]
    · split
      · rename_i hk
        subst hk
        simp [Memory.lookup, Ne.symm h]
      · simp only [Memory.lookup]
        split
        · rfl
        · exact ih

/-- A form that holds from an address on holds from every lower one. -/
theorem Memory.wfFrom_mono {lo lo' : Nat} {m : Memory} (h : lo' ≤ lo)
    (hm : Memory.wfFrom lo m = true) : Memory.wfFrom lo' m = true := by
  cases m with
  | nil => rfl
  | cons x rest =>
    obtain ⟨k, w⟩ := x
    simp only [Memory.wfFrom, Bool.and_eq_true, decide_eq_true_eq] at hm ⊢
    exact ⟨⟨⟨⟨le_trans h hm.1.1.1.1, hm.1.1.1.2⟩, hm.1.1.2⟩, hm.1.2⟩, hm.2⟩

/-- A store at a plain address keeps the form. -/
theorem Memory.wfFrom_store {lo a : Nat} {m : Memory} (v : Byte) (hlo : lo ≤ a) (ha : a < 65536)
    (h1 : a ≠ 0xFF0F) (h2 : a ≠ 0xFFFF) (hm : Memory.wfFrom lo m = true) :
    Memory.wfFrom lo (Memory.store m a v) = true := by
  induction m generalizing lo with
  | nil => simp [Memory.store, Memory.wfFrom, hlo, ha, h1, h2]
  | cons x rest ih =>
    obtain ⟨k, w⟩ := x
    simp only [Memory.wfFrom, Bool.and_eq_true, decide_eq_true_eq, bne_iff_ne] at hm
    obtain ⟨⟨⟨⟨hk, hk'⟩, hk1⟩, hk2⟩, hrest⟩ := hm
    simp only [Memory.store]
    split
    · rename_i hlt
      simp [Memory.wfFrom, hlo, ha, h1, h2, hk', hk1, hk2, hrest]
      omega
    · split
      · rename_i heq
        subst heq
        simp [Memory.wfFrom, hlo, ha, h1, h2, hrest]
      · rename_i hlt hne
        simp only [Memory.wfFrom, Bool.and_eq_true, decide_eq_true_eq, bne_iff_ne]
        exact ⟨⟨⟨⟨hk, hk'⟩, hk1⟩, hk2⟩, ih (by omega) hrest⟩

/-- The bus write keeps the form (20_memory.md R62). -/
theorem State.memWrite_wf (s : State) (a : Word) (v : Byte) (h : Memory.wf s.mem = true) :
    Memory.wf (s.memWrite a v).mem = true := by
  unfold State.memWrite
  split_ifs with h1 h2
  · exact h
  · exact h
  · refine Memory.wfFrom_store v (Nat.zero_le _) a.isLt ?_ ?_ h
    · intro hc; exact h1 (BitVec.eq_of_toNat_eq hc)
    · intro hc; exact h2 (BitVec.eq_of_toNat_eq hc)

/-- The push keeps the form. -/
theorem State.push16_wf (s : State) (v : Word) (h : Memory.wf s.mem = true) :
    Memory.wf (s.push16 v).mem = true :=
  State.memWrite_wf _ _ _ (State.memWrite_wf _ _ _ h)

/-- The memory of the reset state has the form. -/
theorem State.reset_memory_wf : Memory.wf State.reset.mem = true := rfl

end Sys2Proof.Machine
end

