-- ==== Sys2Proof/Laws/Ops.lean ====
section
/-! SUPPORT. What each shared operation of the instruction families can do, said once. -/

namespace Sys2Proof.Machine

/-! ### Flags -/

/-- The byte of the four flags has a zero low nibble (10_state.md R21). -/
@[simp] theorem flagByte_masked (z n h c : Bool) :
    flagByte z n h c &&& 0xF0#8 = flagByte z n h c := by
  cases z <;> cases n <;> cases h <;> cases c <;> rfl

/-- The same, as the invariant says it. -/
@[simp] theorem flagByte_low_nibble (z n h c : Bool) : flagByte z n h c &&& 0x0F#8 = 0#8 := by
  cases z <;> cases n <;> cases h <;> cases c <;> rfl

@[simp] theorem flagByte_bit7 (z n h c : Bool) : (flagByte z n h c).getLsbD 7 = z := by
  cases z <;> cases n <;> cases h <;> cases c <;> rfl

@[simp] theorem flagByte_bit6 (z n h c : Bool) : (flagByte z n h c).getLsbD 6 = n := by
  cases z <;> cases n <;> cases h <;> cases c <;> rfl

@[simp] theorem flagByte_bit5 (z n h c : Bool) : (flagByte z n h c).getLsbD 5 = h := by
  cases z <;> cases n <;> cases h <;> cases c <;> rfl

@[simp] theorem flagByte_bit4 (z n h c : Bool) : (flagByte z n h c).getLsbD 4 = c := by
  cases z <;> cases n <;> cases h <;> cases c <;> rfl

/-- A write of the flags as a record update. -/
theorem State.setFlags_eq (s : State) (z n h c : Bool) :
    s.setFlags z n h c = { s with f := flagByte z n h c } := by
  simp only [State.setFlags, State.setF, flagByte_masked]

/-! ### Joining and splitting -/

@[simp] theorem hiByte_joinBytes (h l : Byte) : hiByte (joinBytes h l) = h := by
  apply BitVec.eq_of_toNat_eq
  simp only [hiByte, joinBytes, BitVec.toNat_ofNat]
  omega

@[simp] theorem loByte_joinBytes (h l : Byte) : loByte (joinBytes h l) = l := by
  apply BitVec.eq_of_toNat_eq
  simp only [loByte, joinBytes, BitVec.toNat_ofNat]
  omega

@[simp] theorem joinBytes_hiByte_loByte (v : Word) : joinBytes (hiByte v) (loByte v) = v := by
  apply BitVec.eq_of_toNat_eq
  simp only [hiByte, loByte, joinBytes, BitVec.toNat_ofNat]
  omega

/-! ### The cursor -/

theorem State.next_eq (s : State) (n : Nat) :
    s.next (n + 1) = (if s.haltBug then s.pc else s.pc + 1#16) + BitVec.ofNat 16 n := rfl

theorem State.next_one (s : State) : s.next 1 = s.cursor := by
  simp [State.next]

/-! ### The instruction families -/

/-- Every ALU operation on `A` writes `A` (but for `CP`) and the flags. -/
theorem aluValue_eq (op : AluOp) (v : Byte) (s : State) :
    aluValue op v s =
      { s with
        a := if op = .cp then s.a else (alu8 op s.a v s.flagC).res
        f := flagByte (alu8 op s.a v s.flagC).z (alu8 op s.a v s.flagC).n
          (alu8 op s.a v s.flagC).h (alu8 op s.a v s.flagC).c } := by
  cases op <;> simp [aluValue, State.setFlags_eq]

/-- The one-byte ALU forms. -/
theorem aluOperand_eq (op : AluOp) (r : Operand8) (s : State) :
    aluOperand op r s =
      { s with
        a := if op = .cp then s.a else (alu8 op s.a (s.operand r) s.flagC).res
        f := flagByte (alu8 op s.a (s.operand r) s.flagC).z (alu8 op s.a (s.operand r) s.flagC).n
          (alu8 op s.a (s.operand r) s.flagC).h (alu8 op s.a (s.operand r) s.flagC).c
        pc := s.next 1
        haltBug := false } := by
  simp only [aluOperand, aluValue_eq]; rfl

/-- The two-byte ALU forms. -/
theorem aluImmediate_eq (op : AluOp) (d8 : Byte) (s : State) :
    aluImmediate op d8 s =
      { s with
        a := if op = .cp then s.a else (alu8 op s.a d8 s.flagC).res
        f := flagByte (alu8 op s.a d8 s.flagC).z (alu8 op s.a d8 s.flagC).n
          (alu8 op s.a d8 s.flagC).h (alu8 op s.a d8 s.flagC).c
        pc := s.next 2
        haltBug := false } := by
  simp only [aluImmediate, aluValue_eq]; rfl

/-- `INC` as a write of the operand and of the flags. -/
theorem incOperand_eq (r : Operand8) (s : State) :
    incOperand r s =
      { (s.advance 1).setOperand r (s.operand r + 1#8) with
        f := flagByte (s.operand r + 1#8 == 0#8) false
          (decide ((s.operand r).toNat % 16 + 1 > 0xF)) s.flagC } := by
  simp only [incOperand, State.setFlags_eq, inc8]

/-- `DEC` as a write of the operand and of the flags. -/
theorem decOperand_eq (r : Operand8) (s : State) :
    decOperand r s =
      { (s.advance 1).setOperand r (s.operand r - 1#8) with
        f := flagByte (s.operand r - 1#8 == 0#8) true
          (decide ((s.operand r).toNat % 16 = 0)) s.flagC } := by
  simp only [decOperand, State.setFlags_eq, dec8]

/-- The accumulator rotates write `A`, the flags, and no more. -/
theorem rotateA_eq (op : ShiftOp) (s : State) :
    rotateA op s =
      { s with
        a := shiftRes op s.a s.flagC, f := flagByte false false false (shiftCarry op s.a)
        pc := s.next 1, haltBug := false } := by
  simp only [rotateA, State.setFlags_eq]; rfl

/-- `ADD HL,rr` writes `HL` and the flags. -/
theorem addHLPair_eq (p : Pair16) (s : State) :
    addHLPair p s =
      { s with
        h := hiByte (s.hl + s.pair p), l := loByte (s.hl + s.pair p)
        f := flagByte s.flagZ false (addHLHalf s.hl (s.pair p)) (addHLCarry s.hl (s.pair p))
        pc := s.next 1, haltBug := false } := by
  simp only [addHLPair, State.setFlags_eq]; rfl

/-- A CB rotate or shift as a write of the operand and of the flags. -/
theorem shiftOperand_eq (op : ShiftOp) (r : Operand8) (s : State) :
    shiftOperand op r s =
      { (s.advance 2).setOperand r (shiftRes op (s.operand r) s.flagC) with
        f := flagByte (shiftRes op (s.operand r) s.flagC == 0#8) false false
          (shiftCarry op (s.operand r)) } := by
  simp only [shiftOperand, State.setFlags_eq]

/-- `BIT` writes the flags. -/
theorem testOperand_eq (b : Oct) (r : Operand8) (s : State) :
    testOperand b r s =
      { s with
        f := flagByte (!(s.operand r).getLsbD b.toNat) false true s.flagC
        pc := s.next 2, haltBug := false } := by
  simp only [testOperand, State.setFlags_eq]; rfl

/-- The push as two byte writes below `SP` (44_load16_stack.md R266). -/
theorem State.push16_eq (s : State) (v : Word) :
    s.push16 v =
      { ((s.memWrite (s.sp - 1#16) (hiByte v)).memWrite (s.sp - 2#16) (loByte v)) with
        sp := s.sp - 2#16 } := by
  have h2 : s.sp - 1#16 - 1#16 = s.sp - 2#16 := by rw [BitVec.sub_sub]; rfl
  simp only [State.push16, State.memWrite_sp, h2]
  unfold State.memWrite
  split_ifs <;> rfl

end Sys2Proof.Machine
end

