-- ==== Sys2Proof/Laws/Bus.lean ====
section
/-! SUPPORT. What the bus reads after a write and after a push (20_memory.md R61, R62; 44_load16_stack.md
R266). -/

namespace Sys2Proof.Machine

/-- IF as the bus reads it: the five stored bits of a byte and three ones (10_state.md R32). -/
theorem ifMask_read (v : Byte) : (ifMask v).zeroExtend 8 ||| 0xE0#8 = v ||| 0xE0#8 := by
  revert v; decide +kernel

/-- A read of the address just written. -/
theorem State.memRead_memWrite_same (s : State) (x : Word) (v : Byte) :
    (s.memWrite x v).memRead x = s.readBack x v := by
  unfold State.memWrite State.readBack
  split_ifs with h1 h2
  · subst h1
    exact ifMask_read v
  · subst h2
    rfl
  · simp [State.memRead, h1, h2, State.storage, Memory.lookup_store_same]

/-- A read of any other address. -/
theorem State.memRead_memWrite_other (s : State) (x y : Word) (v : Byte) (h : y ≠ x) :
    (s.memWrite x v).memRead y = s.memRead y := by
  unfold State.memWrite
  split_ifs with h1 h2
  · subst h1
    simp [State.memRead, h, State.storage]
  · subst h2
    simp [State.memRead, h, State.storage]
  · have hn : y.toNat ≠ x.toNat := fun e => h (BitVec.eq_of_toNat_eq e)
    simp [State.memRead, State.storage, Memory.lookup_store_other _ _ _ _ hn]

/-- What a write leaves to be read back depends on the address and the parameters alone. -/
@[simp] theorem State.readBack_memWrite (s : State) (x y : Word) (v w : Byte) :
    (s.memWrite x v).readBack y w = s.readBack y w := by
  unfold State.readBack
  rw [State.memWrite_cfg]

/-- The two addresses of a push differ. -/
theorem pushed_ne (x : Word) : x - 1#16 ≠ x - 2#16 := by bv_omega

/-- The push changes `SP` and what the bus reads, and nothing else. -/
theorem State.push16_same (s : State) (v : Word) :
    s.push16 v =
      { s with
        sp := s.sp - 2#16, mem := (s.push16 v).mem
        ifStored := (s.push16 v).ifStored, ieStored := (s.push16 v).ieStored } := by
  rw [State.push16_eq]
  unfold State.memWrite
  split_ifs <;> rfl

/-- The bus write changes what the bus reads, and nothing else. -/
theorem State.memWrite_same (s : State) (x : Word) (v : Byte) :
    s.memWrite x v =
      { s with
        mem := (s.memWrite x v).mem
        ifStored := (s.memWrite x v).ifStored, ieStored := (s.memWrite x v).ieStored } := by
  unfold State.memWrite
  split_ifs <;> rfl

/-- A read after a push. -/
theorem State.memRead_push16 (s : State) (v y : Word) :
    (s.push16 v).memRead y =
      if y = s.sp - 1#16 then s.readBack y (hiByte v)
      else if y = s.sp - 2#16 then s.readBack y (loByte v)
      else s.memRead y := by
  have e : (s.push16 v).memRead y =
      ((s.memWrite (s.sp - 1#16) (hiByte v)).memWrite (s.sp - 2#16) (loByte v)).memRead y := by
    rw [State.push16_eq]
    rfl
  rw [e]
  split_ifs with h1 h2
  · subst h1
    rw [State.memRead_memWrite_other _ _ _ _ (pushed_ne _), State.memRead_memWrite_same]
  · subst h2
    rw [State.memRead_memWrite_same, State.readBack_memWrite]
  · rw [State.memRead_memWrite_other _ _ _ _ h2, State.memRead_memWrite_other _ _ _ _ h1]

/-- IE keeps to the width the parameter gives it (10_state.md R33). -/
theorem ieMask_width (v : Byte) : ieMask .five v &&& 0xE0#8 = 0#8 := by
  show v &&& 0x1F#8 &&& 0xE0#8 = 0#8
  rw [BitVec.and_assoc]
  exact BitVec.and_zero

end Sys2Proof.Machine
end

