-- ==== Sys2Proof/Laws/Frame.lean ====
section
/-! SUPPORT. What every instruction keeps: the parameters, the latch, the control bits it is not there to
write, and the form of `F`, IE and the memory. -/

namespace Sys2Proof.Machine

/-- From `s` to `t` the parameters, the latch and the control bits are as before, and the low nibble of
`F`, the width of IE and the form of the memory are kept where they held, and `halt_bug` is not set. -/
structure Kept (s t : State) : Prop where
  cfg : t.cfg = s.cfg
  fault : t.fault = s.fault
  halted : t.halted = s.halted
  ime : t.ime = s.ime
  imeScheduled : t.imeScheduled = s.imeScheduled
  low : s.f &&& 0x0F#8 = 0#8 → t.f &&& 0x0F#8 = 0#8
  form : Memory.wf s.mem = true → Memory.wf t.mem = true
  width : (s.cfg.ieWidth = .five → s.ieStored &&& 0xE0#8 = 0#8) →
    s.cfg.ieWidth = .five → t.ieStored &&& 0xE0#8 = 0#8
  haltBug : s.haltBug = false → t.haltBug = false

namespace Kept

theorem rfl' (s : State) : Kept s s := ⟨rfl, rfl, rfl, rfl, rfl, id, id, id, id⟩

theorem trans' {s t u : State} (h : Kept s t) (k : Kept t u) : Kept s u where
  cfg := k.cfg.trans h.cfg
  fault := k.fault.trans h.fault
  halted := k.halted.trans h.halted
  ime := k.ime.trans h.ime
  imeScheduled := k.imeScheduled.trans h.imeScheduled
  low := fun e => k.low (h.low e)
  form := fun e => k.form (h.form e)
  width := fun e w => k.width (by rw [h.cfg]; exact h.width e) (by rw [h.cfg]; exact w)
  haltBug := fun e => k.haltBug (h.haltBug e)

theorem advance (s : State) (n : Nat) : Kept s (s.advance n) :=
  ⟨rfl, rfl, rfl, rfl, rfl, id, id, id, fun _ => rfl⟩

theorem setReg (s : State) (r : Reg8) (v : Byte) : Kept s (s.setReg r v) := by
  cases r <;> exact ⟨rfl, rfl, rfl, rfl, rfl, id, id, id, id⟩

theorem masked (v : Byte) : v &&& 0xF0#8 &&& 0x0F#8 = 0#8 := by
  rw [BitVec.and_assoc]
  exact BitVec.and_zero

theorem setFlags (s : State) (z n h c : Bool) : Kept s (s.setFlags z n h c) :=
  ⟨rfl, rfl, rfl, rfl, rfl, fun _ => masked _, id, id, id⟩

theorem setPair (s : State) (p : Pair16) (v : Word) : Kept s (s.setPair p v) := by
  cases p <;> exact ⟨rfl, rfl, rfl, rfl, rfl, id, id, id, id⟩

theorem setStackPair (s : State) (p : StackPair) (v : Word) : Kept s (s.setStackPair p v) := by
  cases p
  · exact ⟨rfl, rfl, rfl, rfl, rfl, id, id, id, id⟩
  · exact ⟨rfl, rfl, rfl, rfl, rfl, id, id, id, id⟩
  · exact ⟨rfl, rfl, rfl, rfl, rfl, id, id, id, id⟩
  · exact ⟨rfl, rfl, rfl, rfl, rfl, fun _ => masked _, id, id, id⟩

theorem popped (s : State) : Kept s s.popped := ⟨rfl, rfl, rfl, rfl, rfl, id, id, id, id⟩

theorem withPc (s : State) (v : Word) : Kept s { s with pc := v } :=
  ⟨rfl, rfl, rfl, rfl, rfl, id, id, id, id⟩

theorem withSp (s : State) (v : Word) : Kept s { s with sp := v } :=
  ⟨rfl, rfl, rfl, rfl, rfl, id, id, id, id⟩

theorem withA (s : State) (v : Byte) : Kept s { s with a := v } :=
  ⟨rfl, rfl, rfl, rfl, rfl, id, id, id, id⟩

theorem memWrite (s : State) (x : Word) (v : Byte) : Kept s (s.memWrite x v) where
  cfg := s.memWrite_cfg x v
  fault := s.memWrite_fault x v
  halted := s.memWrite_halted x v
  ime := s.memWrite_ime x v
  imeScheduled := s.memWrite_imeScheduled x v
  low := fun e => by rw [s.memWrite_f x v]; exact e
  form := s.memWrite_wf x v
  width := fun e w => by
    unfold State.memWrite
    split_ifs
    · exact e w
    · simp only [w]
      exact ieMask_width v
    · exact e w
  haltBug := fun e => by rw [s.memWrite_haltBug x v]; exact e

theorem push16 (s : State) (v : Word) : Kept s (s.push16 v) := by
  unfold State.push16
  exact trans' (trans' (withSp s _) (memWrite _ _ _)) (trans' (withSp _ _) (memWrite _ _ _))

theorem setOperand (s : State) (o : Operand8) (v : Byte) : Kept s (s.setOperand o v) := by
  cases o with
  | reg r => exact setReg s r v
  | mHL => exact memWrite s _ v

/-! ### The shared operations of the families -/

theorem aluValue (op : AluOp) (v : Byte) (s : State) : Kept s (aluValue op v s) := by
  cases op <;> first
    | exact setFlags s _ _ _ _
    | exact trans' (withA s _) (setFlags _ _ _ _ _)

theorem aluOperand (op : AluOp) (r : Operand8) (s : State) : Kept s (aluOperand op r s) :=
  trans' (advance s 1) (aluValue op _ _)

theorem aluImmediate (op : AluOp) (d8 : Byte) (s : State) : Kept s (aluImmediate op d8 s) :=
  trans' (advance s 2) (aluValue op _ _)

theorem incOperand (r : Operand8) (s : State) : Kept s (incOperand r s) :=
  trans' (trans' (advance s 1) (setOperand _ r _)) (setFlags _ _ _ _ _)

theorem decOperand (r : Operand8) (s : State) : Kept s (decOperand r s) :=
  trans' (trans' (advance s 1) (setOperand _ r _)) (setFlags _ _ _ _ _)

theorem flagsOf {s t : State} (h : Kept s t) (z n hf c : Bool) : Kept s (t.setFlags z n hf c) :=
  trans' h (setFlags t _ _ _ _)

theorem rotateA (op : ShiftOp) (s : State) : Kept s (rotateA op s) :=
  flagsOf (trans' (advance s 1) (withA _ _)) _ _ _ _

theorem daaA (s : State) : Kept s (daaA s) := flagsOf (trans' (advance s 1) (withA _ _)) _ _ _ _

theorem addHLPair (p : Pair16) (s : State) : Kept s (addHLPair p s) :=
  flagsOf (trans' (advance s 1) (setPair _ .hl _)) _ _ _ _

theorem incPair (p : Pair16) (s : State) : Kept s (incPair p s) :=
  trans' (advance s 1) (setPair _ p _)

theorem decPair (p : Pair16) (s : State) : Kept s (decPair p s) :=
  trans' (advance s 1) (setPair _ p _)

theorem loadOperand (d q : Operand8) (s : State) : Kept s (loadOperand d q s) :=
  trans' (advance s 1) (setOperand _ d _)

theorem loadImmediate (d : Operand8) (d8 : Byte) (s : State) : Kept s (loadImmediate d d8 s) :=
  trans' (advance s 2) (setOperand _ d _)

theorem loadAFrom (n : Nat) (x : Word) (s : State) : Kept s (loadAFrom n x s) :=
  trans' (advance s n) (withA _ _)

theorem storeATo (n : Nat) (x : Word) (s : State) : Kept s (storeATo n x s) :=
  trans' (advance s n) (memWrite _ _ _)

theorem loadPair (p : Pair16) (v : Word) (s : State) : Kept s (loadPair p v s) :=
  trans' (advance s 3) (setPair _ p _)

theorem pushPair (p : StackPair) (s : State) : Kept s (pushPair p s) :=
  trans' (advance s 1) (push16 _ _)

theorem popPair (p : StackPair) (s : State) : Kept s (popPair p s) :=
  trans' (trans' (advance s 1) (popped _)) (setStackPair _ p _)

theorem storeWord (x v : Word) (s : State) : Kept s (storeWord x v s) :=
  trans' (memWrite s _ _) (memWrite _ _ _)

theorem jumpIf (b : Bool) (x : Word) (s : State) : Kept s (jumpIf b x s) := by
  cases b
  · exact advance s 3
  · exact trans' (advance s 3) (withPc _ _)

theorem relJumpIf (b : Bool) (e : Byte) (s : State) : Kept s (relJumpIf b e s) := by
  cases b
  · exact advance s 2
  · exact trans' (advance s 2) (withPc _ _)

theorem callIf (b : Bool) (x : Word) (s : State) : Kept s (callIf b x s) := by
  cases b
  · exact advance s 3
  · exact trans' (trans' (advance s 3) (push16 _ _)) (withPc _ _)

theorem returnIf (b : Bool) (s : State) : Kept s (returnIf b s) := by
  cases b
  · exact advance s 1
  · exact trans' (trans' (advance s 1) (popped _)) (withPc _ _)

theorem restart (y : Oct) (s : State) : Kept s (restart y s) :=
  trans' (trans' (advance s 1) (push16 _ _)) (withPc _ _)

theorem shiftOperand (op : ShiftOp) (r : Operand8) (s : State) : Kept s (shiftOperand op r s) :=
  flagsOf (trans' (advance s 2) (setOperand _ r _)) _ _ _ _

theorem testOperand (b : Oct) (r : Operand8) (s : State) : Kept s (testOperand b r s) :=
  flagsOf (advance s 2) _ _ _ _

theorem resetOperand (b : Oct) (r : Operand8) (s : State) : Kept s (resetOperand b r s) :=
  trans' (advance s 2) (setOperand _ r _)

theorem setOperandBit (b : Oct) (r : Operand8) (s : State) : Kept s (setOperandBit b r s) :=
  trans' (advance s 2) (setOperand _ r _)

end Kept

/-- The instructions that write a control bit or the latch. -/
def writesControl : Instr → Bool
  | .halt | .ei | .di | .reti | .unmapped _ | .unmapped_STOP | .prefix_CB _ => true
  | _ => false

/-- Every other instruction answers a next state that keeps what `Kept` names. -/
theorem exec_kept (i : Instr) (s : State) (hi : writesControl i = false) :
    ∃ t, exec i s = .next t ∧ Kept s t := by
  cases i <;> refine ⟨_, rfl, ?_⟩ <;> first
    | with_reducible apply Kept.loadOperand
    | with_reducible apply Kept.loadImmediate
    | with_reducible apply Kept.aluOperand
    | with_reducible apply Kept.aluImmediate
    | with_reducible apply Kept.incOperand
    | with_reducible apply Kept.decOperand
    | with_reducible apply Kept.shiftOperand
    | with_reducible apply Kept.testOperand
    | with_reducible apply Kept.resetOperand
    | with_reducible apply Kept.setOperandBit
    | with_reducible apply Kept.loadAFrom
    | with_reducible apply Kept.storeATo
    | with_reducible apply Kept.loadPair
    | with_reducible apply Kept.addHLPair
    | with_reducible apply Kept.incPair
    | with_reducible apply Kept.decPair
    | with_reducible apply Kept.pushPair
    | with_reducible apply Kept.popPair
    | with_reducible apply Kept.jumpIf
    | with_reducible apply Kept.relJumpIf
    | with_reducible apply Kept.callIf
    | with_reducible apply Kept.returnIf
    | with_reducible apply Kept.restart
    | with_reducible apply Kept.rotateA
    | with_reducible apply Kept.daaA
    | with_reducible apply Kept.advance
    | exact Bool.noConfusion hi
    | skip
  case ld_ma16_SP => exact Kept.trans' (Kept.advance s 3) (Kept.storeWord _ _ _)
  case add_SP_e8 => exact Kept.flagsOf (Kept.trans' (Kept.advance s 2) (Kept.withSp _ _)) _ _ _ _
  case ld_HL_SPe8 => exact Kept.flagsOf (Kept.trans' (Kept.advance s 2) (Kept.setPair _ .hl _)) _ _ _ _
  case ld_mHLinc_A => exact Kept.trans' (Kept.storeATo 1 _ s) (Kept.setPair _ .hl _)
  case ld_A_mHLinc => exact Kept.trans' (Kept.loadAFrom 1 _ s) (Kept.setPair _ .hl _)
  case ld_mHLdec_A => exact Kept.trans' (Kept.storeATo 1 _ s) (Kept.setPair _ .hl _)
  case ld_A_mHLdec => exact Kept.trans' (Kept.loadAFrom 1 _ s) (Kept.setPair _ .hl _)
  case cpl => exact Kept.flagsOf (Kept.trans' (Kept.advance s 1) (Kept.withA _ _)) _ _ _ _
  case scf => exact Kept.flagsOf (Kept.advance s 1) _ _ _ _
  case ccf => exact Kept.flagsOf (Kept.advance s 1) _ _ _ _
  case jp_HL => exact Kept.trans' (Kept.advance s 1) (Kept.withPc _ _)
  case ld_SP_HL => exact Kept.trans' (Kept.advance s 1) (Kept.withSp _ _)

end Sys2Proof.Machine
end

