-- ==== Sys2Proof/Laws/Step.lean ====
section
/-! SUPPORT. What a step can do, said once (40_step_cycle.md R131). -/

namespace Sys2Proof.Machine

/-- A step from a latched state answers the latched fault. -/
theorem stepWith_latched {run : Instr → State → StepResult} {s : State} {x : DecodeFailure}
    (h : s.fault = some x) :
    stepWith run s = .fault (.decodeFailure x.byte x.addr x.wasPrefixed) := by
  unfold stepWith
  rw [h]

/-- If a step answers a next state, no fault was latched, and the step is an idle one, a dispatch, or the
execution of the fetched instruction followed by the delayed enable. -/
theorem step_cases {s t : State} (h : step s = .next t) :
    s.fault = none ∧
      ((s.wake.halted = true ∧ t = s.wake) ∨
       (s.wake.halted = false ∧ ∃ i, s.wake.toDispatch = some i ∧ t = s.wake.dispatch i) ∨
       (s.wake.halted = false ∧ s.wake.toDispatch = none ∧
         ∃ u, exec s.wake.fetch s.wake = .next u ∧ t = u.promote s.wake.imeScheduled)) := by
  unfold step stepWith at h
  split at h
  · cases h
  · rename_i hf
    refine ⟨hf, ?_⟩
    simp only at h
    split at h
    · rename_i hh
      cases h
      exact .inl ⟨hh, rfl⟩
    · rename_i hh
      simp only [Bool.not_eq_true] at hh
      split at h
      · rename_i i hi
        cases h
        exact .inr (.inl ⟨hh, i, hi, rfl⟩)
      · rename_i hi
        refine .inr (.inr ⟨hh, hi, ?_⟩)
        cases hx : exec s.wake.fetch s.wake with
        | next u =>
          rw [hx] at h
          cases h
          exact ⟨u, rfl, rfl⟩
        | fault r => rw [hx] at h; cases h
        | refused r => rw [hx] at h; cases h

/-- The wake changes `halted` alone (R133). -/
theorem State.wake_eq (s : State) :
    s.wake = { s with halted := s.halted && s.pending == 0#5 } := by
  unfold State.wake
  split_ifs with h
  · simp [h.1, h.2]
  · have e : (s.halted && s.pending == 0#5) = s.halted := by
      cases hh : s.halted with
      | false => rfl
      | true =>
        have : s.pending = 0#5 := by
          by_contra hc
          exact h ⟨hh, hc⟩
        simp [this]
    rw [e]

/-- The delayed enable changes `ime` and `imeScheduled` alone (R141). -/
theorem State.promote_eq (b : Bool) (s : State) :
    s.promote b = { s with ime := (s.promote b).ime, imeScheduled := (s.promote b).imeScheduled } := by
  unfold State.promote
  split_ifs <;> rfl

end Sys2Proof.Machine
end

