-- ==== Sys2Proof/Tests/Slice0.lean ====
section
/-! SUPPORT. Tests: what the checks refuse, every constructor's word, the spec's own vectors
(95_test_vectors.md), and a witness for the hypotheses of every statement. -/

namespace Sys2Proof.Tests

open Sys2Proof.Machine

set_option Elab.async false

/-! ## Helpers -/

/-- The reset state with bytes loaded and `PC` at an entry (95_test_vectors.md, conventions). -/
def load (cells : List (Word × Byte)) (entryPc : Word) : State :=
  launch Config.default cells entryPc

/-- The step answers a next state with a property. -/
def stepsTo (s : State) (p : State → Bool) : Bool :=
  match step s with
  | .next t => p t
  | _ => false

/-- The state with another profile. -/
def inProfile (p : Profile) (s : State) : State :=
  { s with cfg := { s.cfg with profile := p } }

/-- The state with another width of IE. -/
def wideIe (s : State) : State := { s with cfg := { s.cfg with ieWidth := .eight } }

/-! ## WellFormed: an ill-formed term for each check -/

theorem test_wf_refuses_unmapped_of_a_mapped_opcode :
    Instr.failureOk .sm83Complete (.unmapped 0x00#8) = false ∧
    (Instr.unmapped 0x00#8).wf .sm83Complete = false := by decide

theorem test_wf_refuses_unmapped_tier_g_when_mapped :
    (Instr.unmapped 0xE0#8).wf .sm83Complete = false ∧
    (Instr.unmapped 0xE0#8).wf .sourceNamed = true := by decide

theorem test_wf_refuses_failing_prefix_when_table_is_mapped :
    (Instr.prefix_CB 0x37#8).failureOk .sm83Complete = false ∧
    (Instr.prefix_CB 0x37#8).wf .sourceNamed = true := by decide

theorem test_wf_refuses_tier_g_under_source_named :
    Instr.swap_A.tierOk .sourceNamed = false ∧ Instr.reti.wf .sourceNamed = false ∧
    Instr.reti.wf .sm83Complete = true := by decide

/-! ## Decoding: every constructor from a word written out (30_encoding.md R97 to R102) -/

theorem test_decode_base_00_to_1F : ∀ e ∈ [
    ([0x00#8], Instr.nop), ([0x01#8, 0x34#8, 0x12#8], Instr.ld_BC_d16 0x1234#16),
    ([0x02#8], Instr.ld_mBC_A), ([0x03#8], Instr.inc_BC), ([0x04#8], Instr.inc_B),
    ([0x05#8], Instr.dec_B), ([0x06#8, 0x12#8], Instr.ld_B_d8 0x12#8), ([0x07#8], Instr.rlca),
    ([0x08#8, 0x34#8, 0x12#8], Instr.ld_ma16_SP 0x1234#16), ([0x09#8], Instr.add_HL_BC),
    ([0x0A#8], Instr.ld_A_mBC), ([0x0B#8], Instr.dec_BC), ([0x0C#8], Instr.inc_C),
    ([0x0D#8], Instr.dec_C), ([0x0E#8, 0x12#8], Instr.ld_C_d8 0x12#8), ([0x0F#8], Instr.rrca),
    ([0x10#8], Instr.unmapped_STOP), ([0x11#8, 0x34#8, 0x12#8], Instr.ld_DE_d16 0x1234#16),
    ([0x12#8], Instr.ld_mDE_A), ([0x13#8], Instr.inc_DE), ([0x14#8], Instr.inc_D),
    ([0x15#8], Instr.dec_D), ([0x16#8, 0x12#8], Instr.ld_D_d8 0x12#8), ([0x17#8], Instr.rla),
    ([0x18#8, 0x12#8], Instr.jr_e8 0x12#8), ([0x19#8], Instr.add_HL_DE),
    ([0x1A#8], Instr.ld_A_mDE), ([0x1B#8], Instr.dec_DE), ([0x1C#8], Instr.inc_E),
    ([0x1D#8], Instr.dec_E), ([0x1E#8, 0x12#8], Instr.ld_E_d8 0x12#8), ([0x1F#8], Instr.rra)],
    decode .sm83Complete e.1 = .instr e.2 [] := by decide +kernel

theorem test_decode_base_20_to_3F : ∀ e ∈ [
    ([0x20#8, 0x12#8], Instr.jr_NZ_e8 0x12#8),
    ([0x21#8, 0x34#8, 0x12#8], Instr.ld_HL_d16 0x1234#16), ([0x22#8], Instr.ld_mHLinc_A),
    ([0x23#8], Instr.inc_HL), ([0x24#8], Instr.inc_H), ([0x25#8], Instr.dec_H),
    ([0x26#8, 0x12#8], Instr.ld_H_d8 0x12#8), ([0x27#8], Instr.daa),
    ([0x28#8, 0x12#8], Instr.jr_Z_e8 0x12#8), ([0x29#8], Instr.add_HL_HL),
    ([0x2A#8], Instr.ld_A_mHLinc), ([0x2B#8], Instr.dec_HL), ([0x2C#8], Instr.inc_L),
    ([0x2D#8], Instr.dec_L), ([0x2E#8, 0x12#8], Instr.ld_L_d8 0x12#8), ([0x2F#8], Instr.cpl),
    ([0x30#8, 0x12#8], Instr.jr_NC_e8 0x12#8),
    ([0x31#8, 0x34#8, 0x12#8], Instr.ld_SP_d16 0x1234#16), ([0x32#8], Instr.ld_mHLdec_A),
    ([0x33#8], Instr.inc_SP), ([0x34#8], Instr.inc_mHL), ([0x35#8], Instr.dec_mHL),
    ([0x36#8, 0x12#8], Instr.ld_mHL_d8 0x12#8), ([0x37#8], Instr.scf),
    ([0x38#8, 0x12#8], Instr.jr_C_e8 0x12#8), ([0x39#8], Instr.add_HL_SP),
    ([0x3A#8], Instr.ld_A_mHLdec), ([0x3B#8], Instr.dec_SP), ([0x3C#8], Instr.inc_A),
    ([0x3D#8], Instr.dec_A), ([0x3E#8, 0x12#8], Instr.ld_A_d8 0x12#8), ([0x3F#8], Instr.ccf)],
    decode .sm83Complete e.1 = .instr e.2 [] := by decide +kernel

theorem test_decode_base_40_to_5F : ∀ e ∈ [
    ([0x40#8], Instr.ld_B_B), ([0x41#8], Instr.ld_B_C), ([0x42#8], Instr.ld_B_D),
    ([0x43#8], Instr.ld_B_E), ([0x44#8], Instr.ld_B_H), ([0x45#8], Instr.ld_B_L),
    ([0x46#8], Instr.ld_B_mHL), ([0x47#8], Instr.ld_B_A), ([0x48#8], Instr.ld_C_B),
    ([0x49#8], Instr.ld_C_C), ([0x4A#8], Instr.ld_C_D), ([0x4B#8], Instr.ld_C_E),
    ([0x4C#8], Instr.ld_C_H), ([0x4D#8], Instr.ld_C_L), ([0x4E#8], Instr.ld_C_mHL),
    ([0x4F#8], Instr.ld_C_A), ([0x50#8], Instr.ld_D_B), ([0x51#8], Instr.ld_D_C),
    ([0x52#8], Instr.ld_D_D), ([0x53#8], Instr.ld_D_E), ([0x54#8], Instr.ld_D_H),
    ([0x55#8], Instr.ld_D_L), ([0x56#8], Instr.ld_D_mHL), ([0x57#8], Instr.ld_D_A),
    ([0x58#8], Instr.ld_E_B), ([0x59#8], Instr.ld_E_C), ([0x5A#8], Instr.ld_E_D),
    ([0x5B#8], Instr.ld_E_E), ([0x5C#8], Instr.ld_E_H), ([0x5D#8], Instr.ld_E_L),
    ([0x5E#8], Instr.ld_E_mHL), ([0x5F#8], Instr.ld_E_A)],
    decode .sm83Complete e.1 = .instr e.2 [] := by decide +kernel

theorem test_decode_base_60_to_7F : ∀ e ∈ [
    ([0x60#8], Instr.ld_H_B), ([0x61#8], Instr.ld_H_C), ([0x62#8], Instr.ld_H_D),
    ([0x63#8], Instr.ld_H_E), ([0x64#8], Instr.ld_H_H), ([0x65#8], Instr.ld_H_L),
    ([0x66#8], Instr.ld_H_mHL), ([0x67#8], Instr.ld_H_A), ([0x68#8], Instr.ld_L_B),
    ([0x69#8], Instr.ld_L_C), ([0x6A#8], Instr.ld_L_D), ([0x6B#8], Instr.ld_L_E),
    ([0x6C#8], Instr.ld_L_H), ([0x6D#8], Instr.ld_L_L), ([0x6E#8], Instr.ld_L_mHL),
    ([0x6F#8], Instr.ld_L_A), ([0x70#8], Instr.ld_mHL_B), ([0x71#8], Instr.ld_mHL_C),
    ([0x72#8], Instr.ld_mHL_D), ([0x73#8], Instr.ld_mHL_E), ([0x74#8], Instr.ld_mHL_H),
    ([0x75#8], Instr.ld_mHL_L), ([0x76#8], Instr.halt), ([0x77#8], Instr.ld_mHL_A),
    ([0x78#8], Instr.ld_A_B), ([0x79#8], Instr.ld_A_C), ([0x7A#8], Instr.ld_A_D),
    ([0x7B#8], Instr.ld_A_E), ([0x7C#8], Instr.ld_A_H), ([0x7D#8], Instr.ld_A_L),
    ([0x7E#8], Instr.ld_A_mHL), ([0x7F#8], Instr.ld_A_A)],
    decode .sm83Complete e.1 = .instr e.2 [] := by decide +kernel

theorem test_decode_base_80_to_9F : ∀ e ∈ [
    ([0x80#8], Instr.add_A_B), ([0x81#8], Instr.add_A_C), ([0x82#8], Instr.add_A_D),
    ([0x83#8], Instr.add_A_E), ([0x84#8], Instr.add_A_H), ([0x85#8], Instr.add_A_L),
    ([0x86#8], Instr.add_A_mHL), ([0x87#8], Instr.add_A_A), ([0x88#8], Instr.adc_A_B),
    ([0x89#8], Instr.adc_A_C), ([0x8A#8], Instr.adc_A_D), ([0x8B#8], Instr.adc_A_E),
    ([0x8C#8], Instr.adc_A_H), ([0x8D#8], Instr.adc_A_L), ([0x8E#8], Instr.adc_A_mHL),
    ([0x8F#8], Instr.adc_A_A), ([0x90#8], Instr.sub_B), ([0x91#8], Instr.sub_C),
    ([0x92#8], Instr.sub_D), ([0x93#8], Instr.sub_E), ([0x94#8], Instr.sub_H),
    ([0x95#8], Instr.sub_L), ([0x96#8], Instr.sub_mHL), ([0x97#8], Instr.sub_A),
    ([0x98#8], Instr.sbc_A_B), ([0x99#8], Instr.sbc_A_C), ([0x9A#8], Instr.sbc_A_D),
    ([0x9B#8], Instr.sbc_A_E), ([0x9C#8], Instr.sbc_A_H), ([0x9D#8], Instr.sbc_A_L),
    ([0x9E#8], Instr.sbc_A_mHL), ([0x9F#8], Instr.sbc_A_A)],
    decode .sm83Complete e.1 = .instr e.2 [] := by decide +kernel

theorem test_decode_base_A0_to_BF : ∀ e ∈ [
    ([0xA0#8], Instr.and_B), ([0xA1#8], Instr.and_C), ([0xA2#8], Instr.and_D),
    ([0xA3#8], Instr.and_E), ([0xA4#8], Instr.and_H), ([0xA5#8], Instr.and_L),
    ([0xA6#8], Instr.and_mHL), ([0xA7#8], Instr.and_A), ([0xA8#8], Instr.xor_B),
    ([0xA9#8], Instr.xor_C), ([0xAA#8], Instr.xor_D), ([0xAB#8], Instr.xor_E),
    ([0xAC#8], Instr.xor_H), ([0xAD#8], Instr.xor_L), ([0xAE#8], Instr.xor_mHL),
    ([0xAF#8], Instr.xor_A), ([0xB0#8], Instr.or_B), ([0xB1#8], Instr.or_C),
    ([0xB2#8], Instr.or_D), ([0xB3#8], Instr.or_E), ([0xB4#8], Instr.or_H),
    ([0xB5#8], Instr.or_L), ([0xB6#8], Instr.or_mHL), ([0xB7#8], Instr.or_A),
    ([0xB8#8], Instr.cp_B), ([0xB9#8], Instr.cp_C), ([0xBA#8], Instr.cp_D),
    ([0xBB#8], Instr.cp_E), ([0xBC#8], Instr.cp_H), ([0xBD#8], Instr.cp_L),
    ([0xBE#8], Instr.cp_mHL), ([0xBF#8], Instr.cp_A)],
    decode .sm83Complete e.1 = .instr e.2 [] := by decide +kernel

theorem test_decode_base_C0_to_DF : ∀ e ∈ [
    ([0xC0#8], Instr.ret_NZ), ([0xC1#8], Instr.pop_BC),
    ([0xC2#8, 0x34#8, 0x12#8], Instr.jp_NZ_a16 0x1234#16),
    ([0xC3#8, 0x34#8, 0x12#8], Instr.jp_a16 0x1234#16),
    ([0xC4#8, 0x34#8, 0x12#8], Instr.call_NZ_a16 0x1234#16), ([0xC5#8], Instr.push_BC),
    ([0xC6#8, 0x12#8], Instr.add_A_d8 0x12#8), ([0xC7#8], Instr.rst_00), ([0xC8#8], Instr.ret_Z),
    ([0xC9#8], Instr.ret), ([0xCA#8, 0x34#8, 0x12#8], Instr.jp_Z_a16 0x1234#16),
    ([0xCC#8, 0x34#8, 0x12#8], Instr.call_Z_a16 0x1234#16),
    ([0xCD#8, 0x34#8, 0x12#8], Instr.call_a16 0x1234#16),
    ([0xCE#8, 0x12#8], Instr.adc_A_d8 0x12#8), ([0xCF#8], Instr.rst_08), ([0xD0#8], Instr.ret_NC),
    ([0xD1#8], Instr.pop_DE), ([0xD2#8, 0x34#8, 0x12#8], Instr.jp_NC_a16 0x1234#16),
    ([0xD3#8], Instr.unmapped 0xD3#8), ([0xD4#8, 0x34#8, 0x12#8], Instr.call_NC_a16 0x1234#16),
    ([0xD5#8], Instr.push_DE), ([0xD6#8, 0x12#8], Instr.sub_d8 0x12#8), ([0xD7#8], Instr.rst_10),
    ([0xD8#8], Instr.ret_C), ([0xD9#8], Instr.reti),
    ([0xDA#8, 0x34#8, 0x12#8], Instr.jp_C_a16 0x1234#16), ([0xDB#8], Instr.unmapped 0xDB#8),
    ([0xDC#8, 0x34#8, 0x12#8], Instr.call_C_a16 0x1234#16), ([0xDD#8], Instr.unmapped 0xDD#8),
    ([0xDE#8, 0x12#8], Instr.sbc_A_d8 0x12#8), ([0xDF#8], Instr.rst_18)],
    decode .sm83Complete e.1 = .instr e.2 [] := by decide +kernel

theorem test_decode_base_E0_to_FF : ∀ e ∈ [
    ([0xE0#8, 0x12#8], Instr.ldh_ma8_A 0x12#8), ([0xE1#8], Instr.pop_HL),
    ([0xE2#8], Instr.ld_mC_A), ([0xE3#8], Instr.unmapped 0xE3#8),
    ([0xE4#8], Instr.unmapped 0xE4#8), ([0xE5#8], Instr.push_HL),
    ([0xE6#8, 0x12#8], Instr.and_d8 0x12#8), ([0xE7#8], Instr.rst_20),
    ([0xE8#8, 0x12#8], Instr.add_SP_e8 0x12#8), ([0xE9#8], Instr.jp_HL),
    ([0xEA#8, 0x34#8, 0x12#8], Instr.ld_ma16_A 0x1234#16), ([0xEB#8], Instr.unmapped 0xEB#8),
    ([0xEC#8], Instr.unmapped 0xEC#8), ([0xED#8], Instr.unmapped 0xED#8),
    ([0xEE#8, 0x12#8], Instr.xor_d8 0x12#8), ([0xEF#8], Instr.rst_28),
    ([0xF0#8, 0x12#8], Instr.ldh_A_ma8 0x12#8), ([0xF1#8], Instr.pop_AF),
    ([0xF2#8], Instr.ld_A_mC), ([0xF3#8], Instr.di), ([0xF4#8], Instr.unmapped 0xF4#8),
    ([0xF5#8], Instr.push_AF), ([0xF6#8, 0x12#8], Instr.or_d8 0x12#8), ([0xF7#8], Instr.rst_30),
    ([0xF8#8, 0x12#8], Instr.ld_HL_SPe8 0x12#8), ([0xF9#8], Instr.ld_SP_HL),
    ([0xFA#8, 0x34#8, 0x12#8], Instr.ld_A_ma16 0x1234#16), ([0xFB#8], Instr.ei),
    ([0xFC#8], Instr.unmapped 0xFC#8), ([0xFD#8], Instr.unmapped 0xFD#8),
    ([0xFE#8, 0x12#8], Instr.cp_d8 0x12#8), ([0xFF#8], Instr.rst_38)],
    decode .sm83Complete e.1 = .instr e.2 [] := by decide +kernel

theorem test_decode_cb_00_to_1F : ∀ e ∈ [
    ([0xCB#8, 0x00#8], Instr.rlc_B), ([0xCB#8, 0x01#8], Instr.rlc_C),
    ([0xCB#8, 0x02#8], Instr.rlc_D), ([0xCB#8, 0x03#8], Instr.rlc_E),
    ([0xCB#8, 0x04#8], Instr.rlc_H), ([0xCB#8, 0x05#8], Instr.rlc_L),
    ([0xCB#8, 0x06#8], Instr.rlc_mHL), ([0xCB#8, 0x07#8], Instr.rlc_A),
    ([0xCB#8, 0x08#8], Instr.rrc_B), ([0xCB#8, 0x09#8], Instr.rrc_C),
    ([0xCB#8, 0x0A#8], Instr.rrc_D), ([0xCB#8, 0x0B#8], Instr.rrc_E),
    ([0xCB#8, 0x0C#8], Instr.rrc_H), ([0xCB#8, 0x0D#8], Instr.rrc_L),
    ([0xCB#8, 0x0E#8], Instr.rrc_mHL), ([0xCB#8, 0x0F#8], Instr.rrc_A),
    ([0xCB#8, 0x10#8], Instr.rl_B), ([0xCB#8, 0x11#8], Instr.rl_C),
    ([0xCB#8, 0x12#8], Instr.rl_D), ([0xCB#8, 0x13#8], Instr.rl_E),
    ([0xCB#8, 0x14#8], Instr.rl_H), ([0xCB#8, 0x15#8], Instr.rl_L),
    ([0xCB#8, 0x16#8], Instr.rl_mHL), ([0xCB#8, 0x17#8], Instr.rl_A),
    ([0xCB#8, 0x18#8], Instr.rr_B), ([0xCB#8, 0x19#8], Instr.rr_C),
    ([0xCB#8, 0x1A#8], Instr.rr_D), ([0xCB#8, 0x1B#8], Instr.rr_E),
    ([0xCB#8, 0x1C#8], Instr.rr_H), ([0xCB#8, 0x1D#8], Instr.rr_L),
    ([0xCB#8, 0x1E#8], Instr.rr_mHL), ([0xCB#8, 0x1F#8], Instr.rr_A)],
    decode .sm83Complete e.1 = .instr e.2 [] := by decide +kernel

theorem test_decode_cb_20_to_3F : ∀ e ∈ [
    ([0xCB#8, 0x20#8], Instr.sla_B), ([0xCB#8, 0x21#8], Instr.sla_C),
    ([0xCB#8, 0x22#8], Instr.sla_D), ([0xCB#8, 0x23#8], Instr.sla_E),
    ([0xCB#8, 0x24#8], Instr.sla_H), ([0xCB#8, 0x25#8], Instr.sla_L),
    ([0xCB#8, 0x26#8], Instr.sla_mHL), ([0xCB#8, 0x27#8], Instr.sla_A),
    ([0xCB#8, 0x28#8], Instr.sra_B), ([0xCB#8, 0x29#8], Instr.sra_C),
    ([0xCB#8, 0x2A#8], Instr.sra_D), ([0xCB#8, 0x2B#8], Instr.sra_E),
    ([0xCB#8, 0x2C#8], Instr.sra_H), ([0xCB#8, 0x2D#8], Instr.sra_L),
    ([0xCB#8, 0x2E#8], Instr.sra_mHL), ([0xCB#8, 0x2F#8], Instr.sra_A),
    ([0xCB#8, 0x30#8], Instr.swap_B), ([0xCB#8, 0x31#8], Instr.swap_C),
    ([0xCB#8, 0x32#8], Instr.swap_D), ([0xCB#8, 0x33#8], Instr.swap_E),
    ([0xCB#8, 0x34#8], Instr.swap_H), ([0xCB#8, 0x35#8], Instr.swap_L),
    ([0xCB#8, 0x36#8], Instr.swap_mHL), ([0xCB#8, 0x37#8], Instr.swap_A),
    ([0xCB#8, 0x38#8], Instr.srl_B), ([0xCB#8, 0x39#8], Instr.srl_C),
    ([0xCB#8, 0x3A#8], Instr.srl_D), ([0xCB#8, 0x3B#8], Instr.srl_E),
    ([0xCB#8, 0x3C#8], Instr.srl_H), ([0xCB#8, 0x3D#8], Instr.srl_L),
    ([0xCB#8, 0x3E#8], Instr.srl_mHL), ([0xCB#8, 0x3F#8], Instr.srl_A)],
    decode .sm83Complete e.1 = .instr e.2 [] := by decide +kernel

theorem test_decode_cb_40_to_5F : ∀ e ∈ [
    ([0xCB#8, 0x40#8], Instr.bit_0_B), ([0xCB#8, 0x41#8], Instr.bit_0_C),
    ([0xCB#8, 0x42#8], Instr.bit_0_D), ([0xCB#8, 0x43#8], Instr.bit_0_E),
    ([0xCB#8, 0x44#8], Instr.bit_0_H), ([0xCB#8, 0x45#8], Instr.bit_0_L),
    ([0xCB#8, 0x46#8], Instr.bit_0_mHL), ([0xCB#8, 0x47#8], Instr.bit_0_A),
    ([0xCB#8, 0x48#8], Instr.bit_1_B), ([0xCB#8, 0x49#8], Instr.bit_1_C),
    ([0xCB#8, 0x4A#8], Instr.bit_1_D), ([0xCB#8, 0x4B#8], Instr.bit_1_E),
    ([0xCB#8, 0x4C#8], Instr.bit_1_H), ([0xCB#8, 0x4D#8], Instr.bit_1_L),
    ([0xCB#8, 0x4E#8], Instr.bit_1_mHL), ([0xCB#8, 0x4F#8], Instr.bit_1_A),
    ([0xCB#8, 0x50#8], Instr.bit_2_B), ([0xCB#8, 0x51#8], Instr.bit_2_C),
    ([0xCB#8, 0x52#8], Instr.bit_2_D), ([0xCB#8, 0x53#8], Instr.bit_2_E),
    ([0xCB#8, 0x54#8], Instr.bit_2_H), ([0xCB#8, 0x55#8], Instr.bit_2_L),
    ([0xCB#8, 0x56#8], Instr.bit_2_mHL), ([0xCB#8, 0x57#8], Instr.bit_2_A),
    ([0xCB#8, 0x58#8], Instr.bit_3_B), ([0xCB#8, 0x59#8], Instr.bit_3_C),
    ([0xCB#8, 0x5A#8], Instr.bit_3_D), ([0xCB#8, 0x5B#8], Instr.bit_3_E),
    ([0xCB#8, 0x5C#8], Instr.bit_3_H), ([0xCB#8, 0x5D#8], Instr.bit_3_L),
    ([0xCB#8, 0x5E#8], Instr.bit_3_mHL), ([0xCB#8, 0x5F#8], Instr.bit_3_A)],
    decode .sm83Complete e.1 = .instr e.2 [] := by decide +kernel

theorem test_decode_cb_60_to_7F : ∀ e ∈ [
    ([0xCB#8, 0x60#8], Instr.bit_4_B), ([0xCB#8, 0x61#8], Instr.bit_4_C),
    ([0xCB#8, 0x62#8], Instr.bit_4_D), ([0xCB#8, 0x63#8], Instr.bit_4_E),
    ([0xCB#8, 0x64#8], Instr.bit_4_H), ([0xCB#8, 0x65#8], Instr.bit_4_L),
    ([0xCB#8, 0x66#8], Instr.bit_4_mHL), ([0xCB#8, 0x67#8], Instr.bit_4_A),
    ([0xCB#8, 0x68#8], Instr.bit_5_B), ([0xCB#8, 0x69#8], Instr.bit_5_C),
    ([0xCB#8, 0x6A#8], Instr.bit_5_D), ([0xCB#8, 0x6B#8], Instr.bit_5_E),
    ([0xCB#8, 0x6C#8], Instr.bit_5_H), ([0xCB#8, 0x6D#8], Instr.bit_5_L),
    ([0xCB#8, 0x6E#8], Instr.bit_5_mHL), ([0xCB#8, 0x6F#8], Instr.bit_5_A),
    ([0xCB#8, 0x70#8], Instr.bit_6_B), ([0xCB#8, 0x71#8], Instr.bit_6_C),
    ([0xCB#8, 0x72#8], Instr.bit_6_D), ([0xCB#8, 0x73#8], Instr.bit_6_E),
    ([0xCB#8, 0x74#8], Instr.bit_6_H), ([0xCB#8, 0x75#8], Instr.bit_6_L),
    ([0xCB#8, 0x76#8], Instr.bit_6_mHL), ([0xCB#8, 0x77#8], Instr.bit_6_A),
    ([0xCB#8, 0x78#8], Instr.bit_7_B), ([0xCB#8, 0x79#8], Instr.bit_7_C),
    ([0xCB#8, 0x7A#8], Instr.bit_7_D), ([0xCB#8, 0x7B#8], Instr.bit_7_E),
    ([0xCB#8, 0x7C#8], Instr.bit_7_H), ([0xCB#8, 0x7D#8], Instr.bit_7_L),
    ([0xCB#8, 0x7E#8], Instr.bit_7_mHL), ([0xCB#8, 0x7F#8], Instr.bit_7_A)],
    decode .sm83Complete e.1 = .instr e.2 [] := by decide +kernel

theorem test_decode_cb_80_to_9F : ∀ e ∈ [
    ([0xCB#8, 0x80#8], Instr.res_0_B), ([0xCB#8, 0x81#8], Instr.res_0_C),
    ([0xCB#8, 0x82#8], Instr.res_0_D), ([0xCB#8, 0x83#8], Instr.res_0_E),
    ([0xCB#8, 0x84#8], Instr.res_0_H), ([0xCB#8, 0x85#8], Instr.res_0_L),
    ([0xCB#8, 0x86#8], Instr.res_0_mHL), ([0xCB#8, 0x87#8], Instr.res_0_A),
    ([0xCB#8, 0x88#8], Instr.res_1_B), ([0xCB#8, 0x89#8], Instr.res_1_C),
    ([0xCB#8, 0x8A#8], Instr.res_1_D), ([0xCB#8, 0x8B#8], Instr.res_1_E),
    ([0xCB#8, 0x8C#8], Instr.res_1_H), ([0xCB#8, 0x8D#8], Instr.res_1_L),
    ([0xCB#8, 0x8E#8], Instr.res_1_mHL), ([0xCB#8, 0x8F#8], Instr.res_1_A),
    ([0xCB#8, 0x90#8], Instr.res_2_B), ([0xCB#8, 0x91#8], Instr.res_2_C),
    ([0xCB#8, 0x92#8], Instr.res_2_D), ([0xCB#8, 0x93#8], Instr.res_2_E),
    ([0xCB#8, 0x94#8], Instr.res_2_H), ([0xCB#8, 0x95#8], Instr.res_2_L),
    ([0xCB#8, 0x96#8], Instr.res_2_mHL), ([0xCB#8, 0x97#8], Instr.res_2_A),
    ([0xCB#8, 0x98#8], Instr.res_3_B), ([0xCB#8, 0x99#8], Instr.res_3_C),
    ([0xCB#8, 0x9A#8], Instr.res_3_D), ([0xCB#8, 0x9B#8], Instr.res_3_E),
    ([0xCB#8, 0x9C#8], Instr.res_3_H), ([0xCB#8, 0x9D#8], Instr.res_3_L),
    ([0xCB#8, 0x9E#8], Instr.res_3_mHL), ([0xCB#8, 0x9F#8], Instr.res_3_A)],
    decode .sm83Complete e.1 = .instr e.2 [] := by decide +kernel

theorem test_decode_cb_A0_to_BF : ∀ e ∈ [
    ([0xCB#8, 0xA0#8], Instr.res_4_B), ([0xCB#8, 0xA1#8], Instr.res_4_C),
    ([0xCB#8, 0xA2#8], Instr.res_4_D), ([0xCB#8, 0xA3#8], Instr.res_4_E),
    ([0xCB#8, 0xA4#8], Instr.res_4_H), ([0xCB#8, 0xA5#8], Instr.res_4_L),
    ([0xCB#8, 0xA6#8], Instr.res_4_mHL), ([0xCB#8, 0xA7#8], Instr.res_4_A),
    ([0xCB#8, 0xA8#8], Instr.res_5_B), ([0xCB#8, 0xA9#8], Instr.res_5_C),
    ([0xCB#8, 0xAA#8], Instr.res_5_D), ([0xCB#8, 0xAB#8], Instr.res_5_E),
    ([0xCB#8, 0xAC#8], Instr.res_5_H), ([0xCB#8, 0xAD#8], Instr.res_5_L),
    ([0xCB#8, 0xAE#8], Instr.res_5_mHL), ([0xCB#8, 0xAF#8], Instr.res_5_A),
    ([0xCB#8, 0xB0#8], Instr.res_6_B), ([0xCB#8, 0xB1#8], Instr.res_6_C),
    ([0xCB#8, 0xB2#8], Instr.res_6_D), ([0xCB#8, 0xB3#8], Instr.res_6_E),
    ([0xCB#8, 0xB4#8], Instr.res_6_H), ([0xCB#8, 0xB5#8], Instr.res_6_L),
    ([0xCB#8, 0xB6#8], Instr.res_6_mHL), ([0xCB#8, 0xB7#8], Instr.res_6_A),
    ([0xCB#8, 0xB8#8], Instr.res_7_B), ([0xCB#8, 0xB9#8], Instr.res_7_C),
    ([0xCB#8, 0xBA#8], Instr.res_7_D), ([0xCB#8, 0xBB#8], Instr.res_7_E),
    ([0xCB#8, 0xBC#8], Instr.res_7_H), ([0xCB#8, 0xBD#8], Instr.res_7_L),
    ([0xCB#8, 0xBE#8], Instr.res_7_mHL), ([0xCB#8, 0xBF#8], Instr.res_7_A)],
    decode .sm83Complete e.1 = .instr e.2 [] := by decide +kernel

theorem test_decode_cb_C0_to_DF : ∀ e ∈ [
    ([0xCB#8, 0xC0#8], Instr.set_0_B), ([0xCB#8, 0xC1#8], Instr.set_0_C),
    ([0xCB#8, 0xC2#8], Instr.set_0_D), ([0xCB#8, 0xC3#8], Instr.set_0_E),
    ([0xCB#8, 0xC4#8], Instr.set_0_H), ([0xCB#8, 0xC5#8], Instr.set_0_L),
    ([0xCB#8, 0xC6#8], Instr.set_0_mHL), ([0xCB#8, 0xC7#8], Instr.set_0_A),
    ([0xCB#8, 0xC8#8], Instr.set_1_B), ([0xCB#8, 0xC9#8], Instr.set_1_C),
    ([0xCB#8, 0xCA#8], Instr.set_1_D), ([0xCB#8, 0xCB#8], Instr.set_1_E),
    ([0xCB#8, 0xCC#8], Instr.set_1_H), ([0xCB#8, 0xCD#8], Instr.set_1_L),
    ([0xCB#8, 0xCE#8], Instr.set_1_mHL), ([0xCB#8, 0xCF#8], Instr.set_1_A),
    ([0xCB#8, 0xD0#8], Instr.set_2_B), ([0xCB#8, 0xD1#8], Instr.set_2_C),
    ([0xCB#8, 0xD2#8], Instr.set_2_D), ([0xCB#8, 0xD3#8], Instr.set_2_E),
    ([0xCB#8, 0xD4#8], Instr.set_2_H), ([0xCB#8, 0xD5#8], Instr.set_2_L),
    ([0xCB#8, 0xD6#8], Instr.set_2_mHL), ([0xCB#8, 0xD7#8], Instr.set_2_A),
    ([0xCB#8, 0xD8#8], Instr.set_3_B), ([0xCB#8, 0xD9#8], Instr.set_3_C),
    ([0xCB#8, 0xDA#8], Instr.set_3_D), ([0xCB#8, 0xDB#8], Instr.set_3_E),
    ([0xCB#8, 0xDC#8], Instr.set_3_H), ([0xCB#8, 0xDD#8], Instr.set_3_L),
    ([0xCB#8, 0xDE#8], Instr.set_3_mHL), ([0xCB#8, 0xDF#8], Instr.set_3_A)],
    decode .sm83Complete e.1 = .instr e.2 [] := by decide +kernel

theorem test_decode_cb_E0_to_FF : ∀ e ∈ [
    ([0xCB#8, 0xE0#8], Instr.set_4_B), ([0xCB#8, 0xE1#8], Instr.set_4_C),
    ([0xCB#8, 0xE2#8], Instr.set_4_D), ([0xCB#8, 0xE3#8], Instr.set_4_E),
    ([0xCB#8, 0xE4#8], Instr.set_4_H), ([0xCB#8, 0xE5#8], Instr.set_4_L),
    ([0xCB#8, 0xE6#8], Instr.set_4_mHL), ([0xCB#8, 0xE7#8], Instr.set_4_A),
    ([0xCB#8, 0xE8#8], Instr.set_5_B), ([0xCB#8, 0xE9#8], Instr.set_5_C),
    ([0xCB#8, 0xEA#8], Instr.set_5_D), ([0xCB#8, 0xEB#8], Instr.set_5_E),
    ([0xCB#8, 0xEC#8], Instr.set_5_H), ([0xCB#8, 0xED#8], Instr.set_5_L),
    ([0xCB#8, 0xEE#8], Instr.set_5_mHL), ([0xCB#8, 0xEF#8], Instr.set_5_A),
    ([0xCB#8, 0xF0#8], Instr.set_6_B), ([0xCB#8, 0xF1#8], Instr.set_6_C),
    ([0xCB#8, 0xF2#8], Instr.set_6_D), ([0xCB#8, 0xF3#8], Instr.set_6_E),
    ([0xCB#8, 0xF4#8], Instr.set_6_H), ([0xCB#8, 0xF5#8], Instr.set_6_L),
    ([0xCB#8, 0xF6#8], Instr.set_6_mHL), ([0xCB#8, 0xF7#8], Instr.set_6_A),
    ([0xCB#8, 0xF8#8], Instr.set_7_B), ([0xCB#8, 0xF9#8], Instr.set_7_C),
    ([0xCB#8, 0xFA#8], Instr.set_7_D), ([0xCB#8, 0xFB#8], Instr.set_7_E),
    ([0xCB#8, 0xFC#8], Instr.set_7_H), ([0xCB#8, 0xFD#8], Instr.set_7_L),
    ([0xCB#8, 0xFE#8], Instr.set_7_mHL), ([0xCB#8, 0xFF#8], Instr.set_7_A)],
    decode .sm83Complete e.1 = .instr e.2 [] := by decide +kernel

theorem test_decode_prefix_source_named :
    decode .sourceNamed [0xCB#8, 0x37#8] = .instr (.prefix_CB 0x37#8) [] ∧
    decode .sourceNamed [0xE0#8, 0x80#8] = .instr (.unmapped 0xE0#8) [0x80#8] ∧
    decode .sourceNamed [0x3E#8, 0x12#8] = .instr (.ld_A_d8 0x12#8) [] := by decide +kernel

theorem test_decode_truncated :
    decode .sm83Complete [] = .truncated ∧ decode .sm83Complete [0xC3#8, 0x00#8] = .truncated ∧
    decode .sm83Complete [0xCB#8] = .truncated := by decide +kernel

theorem test_encode_two_byte_operands :
    encode (.call_NZ_a16 0x0200#16) = [0xC4#8, 0x00#8, 0x02#8] ∧
    encode .swap_A = [0xCB#8, 0x37#8] ∧ encode (.jr_e8 0xFE#8) = [0x18#8, 0xFE#8] := by
  decide +kernel

theorem test_table_words :
    decodeTableWord 8 0x00 = some .nop ∧ decodeTableWord 16 0xCB37 = some .swap_A ∧
    decodeTableWord 16 0xFE18 = some (.jr_e8 0xFE#8) ∧ decodeTableWord 8 0xD3 = some (.unmapped 0xD3#8) ∧
    decodeTableWord 8 0x01 = some (.ld_BC_d16 0x0000#16) ∧
    decodeTableWord 8 0xCB = some .rlc_B := by decide +kernel

theorem test_fetch_word_runs_first :
    stepsTo (State.reset.withFetchWord 16 0xCB37) (fun t => t.pc == 0x0002#16 && t.f == 0x80#8) = true ∧
    stepsTo (State.reset.withFetchWord 8 0xC3) (fun t => t.pc == 0x0000#16) = true ∧
    stepsTo (State.reset.withFetchWord 8 0xFB) (fun t => t.imeScheduled) = true ∧
    stepsTo (State.reset.withFetchWord 8 0xD3)
      (fun t => t.fault == some { byte := 0xD3#8, addr := 0x0000#16, wasPrefixed := false }) = true := by
  decide +kernel

/-! ## The spec's vectors (95_test_vectors.md), one step each -/

/-- 95_test_vectors.md S1 and 2.6 (l). -/
theorem test_nop :
    stepsTo (load [(0x0100#16, 0x00#8)] 0x0100#16)
      (fun t => t.pc == 0x0101#16 && t.f == 0x00#8 && t.a == 0x00#8 && t.sp == 0xFFFE#16) = true ∧
    stepsTo (load [(0xFFFF#16, 0x00#8)] 0xFFFF#16)
      (fun t => t.pc == 0x0000#16) = true := by
  decide +kernel

/-- 95_test_vectors.md 2.1. -/
theorem test_add :
    stepsTo ({ load [(0x0100#16, 0xC6#8), (0x0101#16, 0xC6#8)] 0x0100#16 with a := 0x3A#8 })
      (fun t => t.a == 0x00#8 && t.f == 0xB0#8 && t.pc == 0x0102#16) = true ∧
    stepsTo ({ load [(0x0100#16, 0xC6#8), (0x0101#16, 0x01#8)] 0x0100#16 with
        a := 0xFF#8, f := 0x10#8 })
      (fun t => t.a == 0x00#8 && t.f == 0xB0#8) = true := by
  decide +kernel

/-- 95_test_vectors.md 2.1 and S4. -/
theorem test_adc :
    stepsTo ({ load [(0x0100#16, 0xCE#8), (0x0101#16, 0x00#8)] 0x0100#16 with
        a := 0x0F#8, f := 0x10#8 })
      (fun t => t.a == 0x10#8 && t.f == 0x20#8) = true ∧
    stepsTo ({ load [(0x0100#16, 0x88#8)] 0x0100#16 with a := 0xFF#8, b := 0x00#8, f := 0x10#8 })
      (fun t => t.a == 0x00#8 && t.f == 0xB0#8 && t.pc == 0x0101#16) = true := by
  decide +kernel

/-- 95_test_vectors.md 2.1. -/
theorem test_sub :
    stepsTo ({ load [(0x0100#16, 0xD6#8), (0x0101#16, 0x01#8)] 0x0100#16 with
        a := 0x00#8, f := 0x10#8 })
      (fun t => t.a == 0xFF#8 && t.f == 0x70#8) = true ∧
    stepsTo ({ load [(0x0100#16, 0xD6#8), (0x0101#16, 0x7F#8)] 0x0100#16 with a := 0x80#8 })
      (fun t => t.a == 0x01#8 && t.f == 0x60#8) = true := by
  decide +kernel

/-- 95_test_vectors.md 2.1. -/
theorem test_sbc :
    stepsTo ({ load [(0x0100#16, 0xDE#8), (0x0101#16, 0x0F#8)] 0x0100#16 with
        a := 0x10#8, f := 0x10#8 })
      (fun t => t.a == 0x00#8 && t.f == 0xE0#8) = true ∧
    stepsTo ({ load [(0x0100#16, 0xDE#8), (0x0101#16, 0xFF#8)] 0x0100#16 with
        a := 0x00#8, f := 0x10#8 })
      (fun t => t.a == 0x00#8 && t.f == 0xF0#8) = true := by
  decide +kernel

/-- 95_test_vectors.md 2.1. -/
theorem test_and :
    stepsTo ({ load [(0x0100#16, 0xE6#8), (0x0101#16, 0x3F#8)] 0x0100#16 with
        a := 0x5A#8, f := 0x10#8 })
      (fun t => t.a == 0x1A#8 && t.f == 0x20#8) = true ∧
    stepsTo ({ load [(0x0100#16, 0xE6#8), (0x0101#16, 0x0F#8)] 0x0100#16 with
        a := 0xF0#8, f := 0x10#8 })
      (fun t => t.a == 0x00#8 && t.f == 0xA0#8) = true := by
  decide +kernel

/-- 95_test_vectors.md 2.1. -/
theorem test_xor :
    stepsTo ({ load [(0x0100#16, 0xEE#8), (0x0101#16, 0xFF#8)] 0x0100#16 with
        a := 0xFF#8, f := 0x10#8 })
      (fun t => t.a == 0x00#8 && t.f == 0x80#8) = true ∧
    stepsTo ({ load [(0x0100#16, 0xEE#8), (0x0101#16, 0x0F#8)] 0x0100#16 with
        a := 0xFF#8, f := 0x10#8 })
      (fun t => t.a == 0xF0#8 && t.f == 0x00#8) = true := by
  decide +kernel

/-- 95_test_vectors.md 2.1. -/
theorem test_or :
    stepsTo ({ load [(0x0100#16, 0xF6#8), (0x0101#16, 0x00#8)] 0x0100#16 with
        a := 0x00#8, f := 0x10#8 })
      (fun t => t.a == 0x00#8 && t.f == 0x80#8) = true ∧
    stepsTo ({ load [(0x0100#16, 0xF6#8), (0x0101#16, 0x03#8)] 0x0100#16 with
        a := 0x5A#8, f := 0x10#8 })
      (fun t => t.a == 0x5B#8 && t.f == 0x00#8) = true := by
  decide +kernel

/-- 95_test_vectors.md 2.1, immediate and memory. -/
theorem test_cp :
    stepsTo ({ load [(0x0100#16, 0xFE#8), (0x0101#16, 0x40#8)] 0x0100#16 with a := 0x3C#8 })
      (fun t => t.a == 0x3C#8 && t.f == 0x50#8) = true ∧
    stepsTo ({ load [(0x0100#16, 0xBE#8)] 0x0100#16 with
        h := 0xFF#8, l := 0x0F#8, ifStored := 0x01#5, a := 0xE1#8 })
      (fun t => t.a == 0xE1#8 && t.f == 0xC0#8) = true := by
  decide +kernel

/-- 95_test_vectors.md 2.1, the same register as both operands. -/
theorem test_alu_same_register :
    stepsTo ({ load [(0x0100#16, 0x87#8)] 0x0100#16 with a := 0x88#8, f := 0x10#8 })
      (fun t => t.a == 0x10#8 && t.f == 0x30#8) = true ∧
    stepsTo ({ load [(0x0100#16, 0x8F#8)] 0x0100#16 with a := 0x88#8, f := 0x10#8 })
      (fun t => t.a == 0x11#8 && t.f == 0x30#8) = true ∧
    stepsTo ({ load [(0x0100#16, 0x97#8)] 0x0100#16 with a := 0x88#8, f := 0x10#8 })
      (fun t => t.a == 0x00#8 && t.f == 0xC0#8) = true ∧
    stepsTo ({ load [(0x0100#16, 0x9F#8)] 0x0100#16 with a := 0x88#8, f := 0x10#8 })
      (fun t => t.a == 0xFF#8 && t.f == 0x70#8) = true ∧
    stepsTo ({ load [(0x0100#16, 0xA7#8)] 0x0100#16 with a := 0x88#8, f := 0x10#8 })
      (fun t => t.a == 0x88#8 && t.f == 0x20#8) = true ∧
    stepsTo ({ load [(0x0100#16, 0xAF#8)] 0x0100#16 with a := 0x88#8, f := 0x10#8 })
      (fun t => t.a == 0x00#8 && t.f == 0x80#8) = true ∧
    stepsTo ({ load [(0x0100#16, 0xB7#8)] 0x0100#16 with a := 0x88#8, f := 0x10#8 })
      (fun t => t.a == 0x88#8 && t.f == 0x00#8) = true ∧
    stepsTo ({ load [(0x0100#16, 0xBF#8)] 0x0100#16 with a := 0x88#8, f := 0x10#8 })
      (fun t => t.a == 0x88#8 && t.f == 0xC0#8) = true := by
  decide +kernel

/-- 95_test_vectors.md 2.1, memory operand. -/
theorem test_alu_memory :
    stepsTo ({ load [(0xC000#16, 0xEE#8), (0x0100#16, 0x86#8)] 0x0100#16 with
        a := 0x12#8, h := 0xC0#8, l := 0x00#8 })
      (fun t => t.a == 0x00#8 && t.f == 0xB0#8) = true ∧
    stepsTo ({ load [(0xC000#16, 0x12#8), (0x0100#16, 0x9E#8)] 0x0100#16 with
        a := 0x12#8, f := 0x10#8, h := 0xC0#8, l := 0x00#8 })
      (fun t => t.a == 0xFF#8 && t.f == 0x70#8) = true := by
  decide +kernel

/-- 95_test_vectors.md 2.1; the flags come from the result, not from what IF stores. -/
theorem test_inc :
    stepsTo ({ load [(0x0100#16, 0x04#8)] 0x0100#16 with b := 0xFF#8, f := 0x10#8 })
      (fun t => t.b == 0x00#8 && t.f == 0xB0#8) = true ∧
    stepsTo ({ load [(0x0100#16, 0x34#8)] 0x0100#16 with
        h := 0xFF#8, l := 0x0F#8, ifStored := 0x1F#5 })
      (fun t => t.ifStored == 0x00#5 && t.f == 0xA0#8) = true := by
  decide +kernel

/-- 95_test_vectors.md 2.1. -/
theorem test_dec :
    stepsTo ({ load [(0x0100#16, 0x2D#8)] 0x0100#16 with l := 0x10#8 })
      (fun t => t.l == 0x0F#8 && t.f == 0x60#8) = true ∧
    stepsTo ({ load [(0xC000#16, 0x00#8), (0x0100#16, 0x35#8)] 0x0100#16 with
        h := 0xC0#8, l := 0x00#8, f := 0x10#8 })
      (fun t => t.memRead 0xC000#16 == 0xFF#8 && t.f == 0x70#8) = true := by
  decide +kernel

/-- 95_test_vectors.md 2.1. -/
theorem test_daa_after_addition :
    stepsTo ({ load [(0x0100#16, 0x27#8)] 0x0100#16 with a := 0x9A#8 })
      (fun t => t.a == 0x00#8 && t.f == 0x90#8) = true ∧
    stepsTo ({ load [(0x0100#16, 0x27#8)] 0x0100#16 with a := 0xFF#8, f := 0x30#8 })
      (fun t => t.a == 0x65#8 && t.f == 0x10#8) = true ∧
    stepsTo ({ load [(0x0100#16, 0x27#8)] 0x0100#16 with a := 0x0A#8 })
      (fun t => t.a == 0x10#8 && t.f == 0x00#8) = true := by
  decide +kernel

/-- 95_test_vectors.md 2.1. -/
theorem test_daa_after_subtraction :
    stepsTo ({ load [(0x0100#16, 0x27#8)] 0x0100#16 with a := 0x9A#8, f := 0x70#8 })
      (fun t => t.a == 0x34#8 && t.f == 0x50#8) = true ∧
    stepsTo ({ load [(0x0100#16, 0x27#8)] 0x0100#16 with a := 0x9A#8, f := 0x40#8 })
      (fun t => t.a == 0x9A#8 && t.f == 0x40#8) = true ∧
    stepsTo ({ load [(0x0100#16, 0x27#8)] 0x0100#16 with a := 0x66#8, f := 0x70#8 })
      (fun t => t.a == 0x00#8 && t.f == 0xD0#8) = true := by
  decide +kernel

/-- 95_test_vectors.md 2.1. -/
theorem test_cpl_scf_ccf :
    stepsTo ({ load [(0x0100#16, 0x2F#8)] 0x0100#16 with a := 0x35#8, f := 0xF0#8 })
      (fun t => t.a == 0xCA#8 && t.f == 0xF0#8) = true ∧
    stepsTo ({ load [(0x0100#16, 0x37#8)] 0x0100#16 with a := 0x35#8, f := 0xF0#8 })
      (fun t => t.a == 0x35#8 && t.f == 0x90#8) = true ∧
    stepsTo ({ load [(0x0100#16, 0x3F#8)] 0x0100#16 with a := 0x35#8, f := 0xF0#8 })
      (fun t => t.a == 0x35#8 && t.f == 0x80#8) = true := by
  decide +kernel

/-- 95_test_vectors.md 2.1; Z stays 0. -/
theorem test_accumulator_rotates :
    stepsTo ({ load [(0x0100#16, 0x07#8)] 0x0100#16 with a := 0x85#8, f := 0xF0#8 })
      (fun t => t.a == 0x0B#8 && t.f == 0x10#8) = true ∧
    stepsTo ({ load [(0x0100#16, 0x17#8)] 0x0100#16 with a := 0x80#8 })
      (fun t => t.a == 0x00#8 && t.f == 0x10#8) = true ∧
    stepsTo ({ load [(0x0100#16, 0x0F#8)] 0x0100#16 with a := 0x01#8 })
      (fun t => t.a == 0x80#8 && t.f == 0x10#8) = true ∧
    stepsTo ({ load [(0x0100#16, 0x1F#8)] 0x0100#16 with a := 0x85#8, f := 0xF0#8 })
      (fun t => t.a == 0xC2#8 && t.f == 0x10#8) = true := by
  decide +kernel

/-- 95_test_vectors.md 2.2. -/
theorem test_add_hl :
    stepsTo ({ load [(0x0100#16, 0x09#8)] 0x0100#16 with
        h := 0x8A#8, l := 0x23#8, b := 0x06#8, c := 0x05#8, f := 0x80#8 })
      (fun t => t.hl == 0x9028#16 && t.f == 0xA0#8) = true ∧
    stepsTo ({ load [(0x0100#16, 0x29#8)] 0x0100#16 with h := 0x8A#8, l := 0x23#8 })
      (fun t => t.hl == 0x1446#16 && t.f == 0x30#8) = true ∧
    stepsTo ({ load [(0x0100#16, 0x39#8)] 0x0100#16 with
        h := 0xFF#8, l := 0xFF#8, sp := 0x0001#16, f := 0xC0#8 })
      (fun t => t.hl == 0x0000#16 && t.f == 0xB0#8) = true := by
  decide +kernel

/-- 95_test_vectors.md 2.2. -/
theorem test_inc_dec_pair :
    stepsTo ({ load [(0x0100#16, 0x03#8)] 0x0100#16 with b := 0xFF#8, c := 0xFF#8, f := 0xF0#8 })
      (fun t => t.bc == 0x0000#16 && t.f == 0xF0#8) = true ∧
    stepsTo ({ load [(0x0100#16, 0x3B#8)] 0x0100#16 with sp := 0x0000#16 })
      (fun t => t.sp == 0xFFFF#16) = true ∧
    stepsTo ({ load [(0x0100#16, 0x23#8)] 0x0100#16 with h := 0x0F#8, l := 0xFF#8 })
      (fun t => t.hl == 0x1000#16) = true := by
  decide +kernel

/-- 95_test_vectors.md 2.2. -/
theorem test_sp_offset :
    stepsTo ({ load [(0x0100#16, 0xE8#8), (0x0101#16, 0x08#8)] 0x0100#16 with
        sp := 0xFFF8#16, f := 0xF0#8 })
      (fun t => t.sp == 0x0000#16 && t.f == 0x30#8 && t.pc == 0x0102#16) = true ∧
    stepsTo ({ load [(0x0100#16, 0xF8#8), (0x0101#16, 0xFF#8)] 0x0100#16 with
        sp := 0x0000#16, f := 0xF0#8 })
      (fun t => t.hl == 0xFFFF#16 && t.f == 0x00#8 && t.sp == 0x0000#16) = true ∧
    stepsTo ({ load [(0x0100#16, 0xF8#8), (0x0101#16, 0x80#8)] 0x0100#16 with
        sp := 0xD0FF#16, f := 0xF0#8 })
      (fun t => t.hl == 0xD07F#16 && t.f == 0x10#8) = true := by
  decide +kernel

/-- 95_test_vectors.md 2.3. -/
theorem test_load_register :
    stepsTo ({ load [(0x0100#16, 0x41#8)] 0x0100#16 with b := 0x01#8, c := 0x9C#8, f := 0xF0#8 })
      (fun t => t.b == 0x9C#8 && t.f == 0xF0#8) = true ∧
    stepsTo ({ load [(0xC123#16, 0x45#8), (0x0100#16, 0x66#8)] 0x0100#16 with
        h := 0xC1#8, l := 0x23#8 })
      (fun t => t.hl == 0x4523#16) = true ∧
    stepsTo ({ load [(0x0100#16, 0x7E#8)] 0x0100#16 with
        h := 0xFF#8, l := 0x0F#8, ifStored := 0x05#5 })
      (fun t => t.a == 0xE5#8) = true := by
  decide +kernel

/-- 95_test_vectors.md 2.3; IE under both widths. -/
theorem test_store_hl :
    stepsTo ({ load [(0x0100#16, 0x74#8)] 0x0100#16 with h := 0xC1#8, l := 0x23#8 })
      (fun t => t.memRead 0xC123#16 == 0xC1#8) = true ∧
    stepsTo ({ load [(0x0100#16, 0x36#8), (0x0101#16, 0xFF#8)] 0x0100#16 with
        h := 0xFF#8, l := 0xFF#8 })
      (fun t => t.ieStored == 0x1F#8 && t.pc == 0x0102#16) = true ∧
    stepsTo (wideIe { load [(0x0100#16, 0x36#8), (0x0101#16, 0xFF#8)] 0x0100#16 with
        h := 0xFF#8, l := 0xFF#8 })
      (fun t => t.ieStored == 0xFF#8 && t.pc == 0x0102#16) = true := by
  decide +kernel

/-- 95_test_vectors.md 2.3. -/
theorem test_load_accumulator :
    stepsTo ({ load [(0xC0FF#16, 0x55#8), (0x0100#16, 0x2A#8)] 0x0100#16 with
        h := 0xC0#8, l := 0xFF#8 })
      (fun t => t.a == 0x55#8 && t.hl == 0xC100#16) = true ∧
    stepsTo ({ load [(0x0100#16, 0xF0#8), (0x0101#16, 0x0F#8)] 0x0100#16 with ifStored := 0x01#5 })
      (fun t => t.a == 0xE1#8 && t.pc == 0x0102#16) = true ∧
    stepsTo ({ load [(0xFF80#16, 0x88#8), (0x0100#16, 0xF2#8)] 0x0100#16 with c := 0x80#8 })
      (fun t => t.a == 0x88#8 && t.pc == 0x0101#16) = true ∧
    stepsTo (load [(0xC010#16, 0xAB#8), (0x0100#16, 0xFA#8), (0x0101#16, 0x10#8),
      (0x0102#16, 0xC0#8)] 0x0100#16)
      (fun t => t.a == 0xAB#8 && t.pc == 0x0103#16) = true := by
  decide +kernel

/-- 95_test_vectors.md 2.3. -/
theorem test_store_accumulator :
    stepsTo ({ load [(0x0100#16, 0x22#8)] 0x0100#16 with a := 0x33#8, h := 0xFF#8, l := 0xFF#8 })
      (fun t => t.ieStored == 0x13#8 && t.hl == 0x0000#16) = true ∧
    stepsTo ({ load [(0x0100#16, 0x32#8)] 0x0100#16 with a := 0x44#8, h := 0x00#8, l := 0x00#8 })
      (fun t => t.memRead 0x0000#16 == 0x44#8 && t.hl == 0xFFFF#16) = true ∧
    stepsTo ({ load [(0x0100#16, 0xE0#8), (0x0101#16, 0x0F#8)] 0x0100#16 with a := 0xFF#8 })
      (fun t => t.ifStored == 0x1F#5) = true ∧
    stepsTo ({ load [(0x0100#16, 0xE2#8)] 0x0100#16 with a := 0x77#8, c := 0x80#8 })
      (fun t => t.memRead 0xFF80#16 == 0x77#8 && t.pc == 0x0101#16) = true := by
  decide +kernel

/-- 95_test_vectors.md 2.4. -/
theorem test_load_pair :
    stepsTo (load [(0x0100#16, 0x01#8), (0x0101#16, 0x34#8), (0x0102#16, 0x12#8)] 0x0100#16)
      (fun t => t.b == 0x12#8 && t.c == 0x34#8 && t.pc == 0x0103#16) = true ∧
    stepsTo ({ load [(0x0100#16, 0xF9#8)] 0x0100#16 with h := 0xCF#8, l := 0xFF#8, f := 0xF0#8 })
      (fun t => t.sp == 0xCFFF#16 && t.f == 0xF0#8) = true := by
  decide +kernel

/-- 95_test_vectors.md 2.4; the second address wraps. -/
theorem test_store_sp :
    stepsTo ({ load [(0x0100#16, 0x08#8), (0x0101#16, 0x00#8), (0x0102#16, 0xC1#8)] 0x0100#16 with
        sp := 0xFFF8#16 })
      (fun t => t.memRead 0xC100#16 == 0xF8#8 && t.memRead 0xC101#16 == 0xFF#8) = true ∧
    stepsTo ({ load [(0x0100#16, 0x08#8), (0x0101#16, 0xFF#8), (0x0102#16, 0xFF#8)] 0x0100#16 with
        sp := 0x12FF#16 })
      (fun t => t.ieStored == 0x1F#8 && t.memRead 0x0000#16 == 0x12#8) = true := by
  decide +kernel

/-- 95_test_vectors.md 2.4. -/
theorem test_push :
    stepsTo ({ load [(0x0100#16, 0xF5#8)] 0x0100#16 with
        a := 0x12#8, f := 0xB0#8, sp := 0xD000#16 })
      (fun t => t.memRead 0xCFFF#16 == 0x12#8 && t.memRead 0xCFFE#16 == 0xB0#8 &&
        t.sp == 0xCFFE#16) = true ∧
    stepsTo ({ load [(0x0100#16, 0xE5#8)] 0x0100#16 with
        h := 0xBE#8, l := 0xEF#8, sp := 0x0001#16 })
      (fun t => t.memRead 0x0000#16 == 0xBE#8 && t.ieStored == 0x0F#8 && t.sp == 0xFFFF#16) = true := by
  decide +kernel

/-- 95_test_vectors.md 2.4. -/
theorem test_pop :
    stepsTo ({ load [(0xCFFE#16, 0xFF#8), (0xCFFF#16, 0x12#8), (0x0100#16, 0xF1#8)] 0x0100#16 with
        sp := 0xCFFE#16 })
      (fun t => t.a == 0x12#8 && t.f == 0xF0#8 && t.sp == 0xD000#16) = true ∧
    stepsTo ({ load [(0x0000#16, 0x77#8), (0x0100#16, 0xE1#8)] 0x0100#16 with
        sp := 0xFFFF#16, ieStored := 0x15#8 })
      (fun t => t.l == 0x15#8 && t.h == 0x77#8 && t.sp == 0x0001#16) = true := by
  decide +kernel

/-- 95_test_vectors.md 2.5. -/
theorem test_jp :
    stepsTo ({ load [(0x0100#16, 0xC2#8), (0x0101#16, 0x00#8), (0x0102#16, 0x80#8)] 0x0100#16 with
        f := 0x80#8 })
      (fun t => t.pc == 0x0103#16) = true ∧
    stepsTo ({ load [(0x0100#16, 0xDA#8), (0x0101#16, 0x00#8), (0x0102#16, 0x80#8)] 0x0100#16 with
        f := 0x10#8 })
      (fun t => t.pc == 0x8000#16) = true ∧
    stepsTo ({ load [(0x0100#16, 0xE9#8)] 0x0100#16 with h := 0xC0#8, l := 0x00#8 })
      (fun t => t.pc == 0xC000#16) = true := by
  decide +kernel

/-- 95_test_vectors.md 2.5. -/
theorem test_jr :
    stepsTo (load [(0x0100#16, 0x18#8), (0x0101#16, 0x80#8)] 0x0100#16)
      (fun t => t.pc == 0x0082#16) = true ∧
    stepsTo (load [(0x0000#16, 0x18#8), (0x0001#16, 0xFD#8)] 0x0000#16)
      (fun t => t.pc == 0xFFFF#16) = true ∧
    stepsTo ({ load [(0x0100#16, 0x28#8), (0x0101#16, 0xFE#8)] 0x0100#16 with f := 0x80#8 })
      (fun t => t.pc == 0x0100#16) = true ∧
    stepsTo (load [(0x0100#16, 0x38#8), (0x0101#16, 0x04#8)] 0x0100#16)
      (fun t => t.pc == 0x0102#16) = true := by
  decide +kernel

/-- 95_test_vectors.md S3 and 2.5. -/
theorem test_call :
    stepsTo (load [(0x0100#16, 0xCD#8), (0x0101#16, 0x00#8), (0x0102#16, 0x02#8)] 0x0100#16)
      (fun t => t.memRead 0xFFFD#16 == 0x01#8 && t.memRead 0xFFFC#16 == 0x03#8 &&
        t.sp == 0xFFFC#16 && t.pc == 0x0200#16) = true ∧
    stepsTo ({ load [(0x0100#16, 0xD4#8), (0x0101#16, 0x34#8), (0x0102#16, 0x12#8)] 0x0100#16 with
        sp := 0xD000#16, f := 0x10#8 })
      (fun t => t.pc == 0x0103#16 && t.sp == 0xD000#16) = true := by
  decide +kernel

/-- 95_test_vectors.md S3 and 2.5. -/
theorem test_ret :
    stepsTo ({ load [(0xFFFC#16, 0x03#8), (0xFFFD#16, 0x01#8), (0x0200#16, 0xC9#8)] 0x0200#16 with
        sp := 0xFFFC#16 })
      (fun t => t.pc == 0x0103#16 && t.sp == 0xFFFE#16) = true ∧
    stepsTo ({ load [(0x0200#16, 0xC0#8)] 0x0200#16 with f := 0x80#8, sp := 0xCFFE#16 })
      (fun t => t.pc == 0x0201#16 && t.sp == 0xCFFE#16) = true ∧
    stepsTo ({ load [(0xCFFE#16, 0x50#8), (0xCFFF#16, 0x01#8), (0x0040#16, 0xD9#8)] 0x0040#16 with
        sp := 0xCFFE#16 })
      (fun t => t.pc == 0x0150#16 && t.sp == 0xD000#16 && t.ime == true) = true := by
  decide +kernel

/-- 95_test_vectors.md 2.5. -/
theorem test_rst :
    stepsTo ({ load [(0x0100#16, 0xEF#8)] 0x0100#16 with sp := 0xD000#16 })
      (fun t => t.memRead 0xCFFF#16 == 0x01#8 && t.memRead 0xCFFE#16 == 0x01#8 &&
        t.sp == 0xCFFE#16 && t.pc == 0x0028#16) = true ∧
    stepsTo ({ load [(0x1234#16, 0xC7#8)] 0x1234#16 with sp := 0xD000#16 })
      (fun t => t.memRead 0xCFFF#16 == 0x12#8 && t.memRead 0xCFFE#16 == 0x35#8 &&
        t.pc == 0x0000#16) = true := by
  decide +kernel

/-- 95_test_vectors.md 2.5, the halt bug. -/
theorem test_control_under_halt_bug :
    stepsTo ({ load [(0x0101#16, 0x18#8), (0x0102#16, 0x05#8)] 0x0101#16 with haltBug := true })
      (fun t => t.pc == 0x011A#16 && t.haltBug == false) = true ∧
    stepsTo ({ load [(0x0101#16, 0xCD#8), (0x0102#16, 0x00#8), (0x0103#16, 0x02#8)] 0x0101#16 with
        haltBug := true, sp := 0xD000#16 })
      (fun t => t.memRead 0xCFFF#16 == 0x01#8 && t.memRead 0xCFFE#16 == 0x03#8 &&
        t.pc == 0x00CD#16) = true := by
  decide +kernel

/-- 95_test_vectors.md 2.6 (a) to (c). -/
theorem test_ei_di :
    stepsTo (load [(0x0100#16, 0xFB#8)] 0x0100#16)
      (fun t => t.pc == 0x0101#16 && t.ime == false && t.imeScheduled == true) = true ∧
    stepsTo ({ load [(0x0100#16, 0x00#8)] 0x0100#16 with imeScheduled := true })
      (fun t => t.pc == 0x0101#16 && t.ime == true && t.imeScheduled == false) = true ∧
    stepsTo ({ load [(0x0100#16, 0xF3#8)] 0x0100#16 with imeScheduled := true })
      (fun t => t.ime == false && t.imeScheduled == false) = true ∧
    stepsTo ({ load [(0x0100#16, 0xFB#8)] 0x0100#16 with imeScheduled := true })
      (fun t => t.ime == true && t.imeScheduled == false) = true := by
  decide +kernel

/-- 95_test_vectors.md 2.6 (e), S2, S5, (j). -/
theorem test_halt :
    stepsTo ({ load [(0x0100#16, 0x76#8)] 0x0100#16 with ime := true, ieStored := 0x04#8 })
      (fun t => t.halted == true && t.pc == 0x0101#16) = true ∧
    stepsTo (load [(0x0100#16, 0x76#8)] 0x0100#16)
      (fun t => t.halted == true && t.pc == 0x0101#16 && t.haltBug == false) = true ∧
    stepsTo ({ load [(0x0100#16, 0x76#8)] 0x0100#16 with ieStored := 0x01#8, ifStored := 0x01#5 })
      (fun t => t.halted == false && t.haltBug == true && t.pc == 0x0101#16) = true ∧
    stepsTo ({ load [(0x0100#16, 0x76#8)] 0x0100#16 with
        ieStored := 0x01#8, ifStored := 0x01#5, imeScheduled := true })
      (fun t => t.haltBug == true && t.ime == true && t.imeScheduled == false) = true := by
  decide +kernel

/-- 95_test_vectors.md S5, 2.6 (g), (i). -/
theorem test_halt_bug_fetch :
    stepsTo ({ load [(0x0101#16, 0x3E#8), (0x0102#16, 0x12#8)] 0x0101#16 with
        haltBug := true, ieStored := 0x01#8, ifStored := 0x01#5 })
      (fun t => t.a == 0x3E#8 && t.pc == 0x0102#16 && t.haltBug == false) = true ∧
    stepsTo ({ load [(0x0101#16, 0x3C#8)] 0x0101#16 with haltBug := true })
      (fun t => t.a == 0x01#8 && t.pc == 0x0101#16 && t.haltBug == false) = true ∧
    stepsTo ({ load [(0x0101#16, 0xCB#8), (0x0102#16, 0x37#8)] 0x0101#16 with haltBug := true })
      (fun t => t.e == 0x02#8 && t.pc == 0x0102#16) = true := by
  decide +kernel

/-- 95_test_vectors.md 2.6 (e), (f). -/
theorem test_idle_and_wake :
    stepsTo ({ load [(0x0100#16, 0x00#8)] 0x0100#16 with halted := true })
      (fun t => t.halted == true && t.pc == 0x0100#16) = true ∧
    stepsTo ({ load [(0x0100#16, 0x3C#8)] 0x0100#16 with
        halted := true, ieStored := 0x04#8, ifStored := 0x04#5 })
      (fun t => t.halted == false && t.a == 0x01#8 && t.pc == 0x0101#16 &&
        t.ifStored == 0x04#5) = true ∧
    stepsTo ({ load [(0x0101#16, 0x00#8)] 0x0101#16 with
        halted := true, ime := true, ieStored := 0x04#8, ifStored := 0x04#5, sp := 0xD000#16 })
      (fun t => t.halted == false && t.memRead 0xCFFF#16 == 0x01#8 &&
        t.memRead 0xCFFE#16 == 0x01#8 && t.ime == false && t.ifStored == 0x00#5 &&
        t.pc == 0x0050#16) = true := by
  decide +kernel

/-- 95_test_vectors.md 2.7. -/
theorem test_dispatch :
    stepsTo ({ load [(0x0100#16, 0x00#8)] 0x0100#16 with
        ime := true, sp := 0xD000#16, ieStored := 0x1F#8, ifStored := 0x1A#5 })
      (fun t => t.pc == 0x0048#16 && t.ifStored == 0x18#5 && t.ime == false &&
        t.memRead 0xCFFF#16 == 0x01#8 && t.memRead 0xCFFE#16 == 0x00#8 &&
        t.sp == 0xCFFE#16) = true ∧
    stepsTo ({ load [(0xFFFF#16, 0x00#8)] 0xFFFF#16 with
        ime := true, sp := 0x0001#16, ieStored := 0x10#8, ifStored := 0x10#5 })
      (fun t => t.memRead 0x0000#16 == 0xFF#8 && t.ieStored == 0x1F#8 && t.sp == 0xFFFF#16 &&
        t.ifStored == 0x00#5 && t.pc == 0x0060#16) = true ∧
    stepsTo ({ load [(0x0100#16, 0x00#8)] 0x0100#16 with ime := true, ifStored := 0x1F#5 })
      (fun t => t.pc == 0x0101#16 && t.ime == true) = true ∧
    stepsTo ({ load [(0x0100#16, 0x00#8)] 0x0100#16 with ieStored := 0x1F#8, ifStored := 0x1F#5 })
      (fun t => t.pc == 0x0101#16 && t.ifStored == 0x1F#5) = true := by
  decide +kernel

/-- 95_test_vectors.md 2.6 (j), (k). -/
theorem test_dispatch_keeps_schedule_and_halt_bug :
    stepsTo ({ load [(0x0100#16, 0x00#8)] 0x0100#16 with
        ime := true, imeScheduled := true, haltBug := true, ieStored := 0x02#8,
        ifStored := 0x02#5, sp := 0xD000#16 })
      (fun t => t.pc == 0x0048#16 && t.imeScheduled == true && t.haltBug == true &&
        t.ime == false) = true := by
  decide +kernel

/-- 95_test_vectors.md 2.8. -/
theorem test_decode_failure :
    stepsTo ({ load [(0x0100#16, 0xD3#8), (0x0101#16, 0x3C#8)] 0x0100#16 with a := 0x05#8 })
      (fun t => t.fault == some { byte := 0xD3#8, addr := 0x0100#16, wasPrefixed := false } &&
        t.pc == 0x0100#16 && t.a == 0x05#8) = true ∧
    stepsTo (load [(0x0100#16, 0x10#8), (0x0101#16, 0x00#8)] 0x0100#16)
      (fun t =>
        t.fault == some { byte := 0x10#8, addr := 0x0100#16, wasPrefixed := false }) = true ∧
    stepsTo (inProfile .sourceNamed (load [(0x0100#16, 0xCB#8), (0x0101#16, 0x37#8)] 0x0100#16))
      (fun t => t.fault == some { byte := 0x37#8, addr := 0x0101#16, wasPrefixed := true } &&
        t.pc == 0x0100#16) = true ∧
    stepsTo ({ load [(0x0101#16, 0xED#8)] 0x0101#16 with haltBug := true })
      (fun t => t.fault == some { byte := 0xED#8, addr := 0x0101#16, wasPrefixed := false } &&
        t.haltBug == true && t.pc == 0x0101#16) = true ∧
    stepsTo (inProfile .sourceNamed { load [(0x0101#16, 0xCB#8),
      (0x0102#16, 0x37#8)] 0x0101#16 with haltBug := true })
      (fun t => t.fault == some { byte := 0xCB#8, addr := 0x0101#16, wasPrefixed := true }) = true := by
  decide +kernel

/-- 95_test_vectors.md 2.9. -/
theorem test_cb_rotates :
    stepsTo ({ load [(0x0100#16, 0xCB#8), (0x0101#16, 0x00#8)] 0x0100#16 with
        b := 0x85#8, f := 0xE0#8 })
      (fun t => t.b == 0x0B#8 && t.f == 0x10#8) = true ∧
    stepsTo ({ load [(0x0100#16, 0xCB#8), (0x0101#16, 0x09#8)] 0x0100#16 with
        c := 0x01#8, f := 0xE0#8 })
      (fun t => t.c == 0x80#8 && t.f == 0x10#8) = true ∧
    stepsTo ({ load [(0x0100#16, 0xCB#8), (0x0101#16, 0x12#8)] 0x0100#16 with
        d := 0x80#8, f := 0xF0#8 })
      (fun t => t.d == 0x01#8 && t.f == 0x10#8) = true ∧
    stepsTo ({ load [(0x0100#16, 0xCB#8), (0x0101#16, 0x1B#8)] 0x0100#16 with
        e := 0x01#8, f := 0xE0#8 })
      (fun t => t.e == 0x00#8 && t.f == 0x90#8) = true ∧
    stepsTo ({ load [(0xC000#16, 0x80#8), (0x0100#16, 0xCB#8), (0x0101#16, 0x06#8)] 0x0100#16 with
        h := 0xC0#8, l := 0x00#8 })
      (fun t => t.memRead 0xC000#16 == 0x01#8 && t.f == 0x10#8 && t.pc == 0x0102#16) = true := by
  decide +kernel

/-- 95_test_vectors.md 2.9. -/
theorem test_cb_shifts :
    stepsTo ({ load [(0x0100#16, 0xCB#8), (0x0101#16, 0x24#8)] 0x0100#16 with
        h := 0xFF#8, f := 0xE0#8 })
      (fun t => t.h == 0xFE#8 && t.f == 0x10#8) = true ∧
    stepsTo ({ load [(0x0100#16, 0xCB#8), (0x0101#16, 0x2D#8)] 0x0100#16 with
        l := 0x8A#8, f := 0xE0#8 })
      (fun t => t.l == 0xC5#8 && t.f == 0x00#8) = true ∧
    stepsTo ({ load [(0x0100#16, 0xCB#8), (0x0101#16, 0x37#8)] 0x0100#16 with
        a := 0xF0#8, f := 0xF0#8 })
      (fun t => t.a == 0x0F#8 && t.f == 0x00#8) = true ∧
    stepsTo ({ load [(0x0100#16, 0xCB#8), (0x0101#16, 0x3F#8)] 0x0100#16 with
        a := 0x01#8, f := 0xE0#8 })
      (fun t => t.a == 0x00#8 && t.f == 0x90#8) = true ∧
    stepsTo ({ load [(0xC000#16, 0x12#8), (0x0100#16, 0xCB#8), (0x0101#16, 0x36#8)] 0x0100#16 with
        h := 0xC0#8, l := 0x00#8, f := 0x10#8 })
      (fun t => t.memRead 0xC000#16 == 0x21#8 && t.f == 0x00#8) = true := by
  decide +kernel

/-- 95_test_vectors.md 2.9. -/
theorem test_cb_bits :
    stepsTo ({ load [(0x0100#16, 0xCB#8), (0x0101#16, 0x7F#8)] 0x0100#16 with
        a := 0x80#8, f := 0xF0#8 })
      (fun t => t.a == 0x80#8 && t.f == 0x30#8) = true ∧
    stepsTo ({ load [(0x0100#16, 0xCB#8), (0x0101#16, 0x65#8)] 0x0100#16 with
        l := 0xEF#8, f := 0xE0#8 })
      (fun t => t.f == 0xA0#8) = true ∧
    stepsTo ({ load [(0x0100#16, 0xCB#8), (0x0101#16, 0xB8#8)] 0x0100#16 with
        b := 0x80#8, f := 0xE0#8 })
      (fun t => t.b == 0x00#8 && t.f == 0xE0#8) = true ∧
    stepsTo ({ load [(0x0100#16, 0xCB#8), (0x0101#16, 0xD9#8)] 0x0100#16 with
        c := 0x00#8, f := 0xF0#8 })
      (fun t => t.c == 0x08#8 && t.f == 0xF0#8) = true ∧
    stepsTo ({ load [(0x0100#16, 0xCB#8), (0x0101#16, 0xFE#8)] 0x0100#16 with
        h := 0xFF#8, l := 0x0F#8, ifStored := 0x01#5 })
      (fun t => t.ifStored == 0x01#5 && t.pc == 0x0102#16) = true ∧
    stepsTo ({ load [(0xC000#16, 0xFF#8), (0x0100#16, 0xCB#8), (0x0101#16, 0x9E#8)] 0x0100#16 with
        h := 0xC0#8, l := 0x00#8, f := 0x10#8 })
      (fun t => t.memRead 0xC000#16 == 0xF7#8 && t.f == 0x10#8) = true := by
  decide +kernel

/-- 2.8: every later step reports the same fault. -/
theorem test_latched_fault_is_reported :
    step { State.reset with fault := some { byte := 0xD3#8, addr := 0x0100#16, wasPrefixed := false } } =
      .fault (.decodeFailure 0xD3#8 0x0100#16 false) := rfl

/-- 2.7: reads of the two registers. -/
theorem test_interrupt_register_reads :
    ({ State.reset with ifStored := 0x05#5 }).memRead 0xFF0F#16 = 0xE5#8 ∧
    (State.reset.memWrite 0xFF0F#16 0xE0#8).memRead 0xFF0F#16 = 0xE0#8 ∧
    (State.reset.memWrite 0xFFFF#16 0xFF#8).memRead 0xFFFF#16 = 0x1F#8 ∧
    ((wideIe State.reset).memWrite 0xFFFF#16 0xFF#8).memRead 0xFFFF#16 = 0xFF#8 := by
  decide +kernel

/-- 60_exceptions.md R356: a peripheral's request. -/
theorem test_raise : (State.reset.raise .timer).ifStored = 0x04#5 := by decide +kernel

/-- 20_memory.md R77 and 2.4: the accesses of a push in order. -/
theorem test_accesses_of_push :
    stepAccesses { load [(0x0100#16, 0xC5#8)] 0x0100#16 with
      b := 0x12#8, c := 0x34#8, sp := 0xD000#16 } =
      [.read 0xFFFF#16, .read 0xFF0F#16, .read 0x0100#16, .write 0xCFFF#16 0x12#8,
       .write 0xCFFE#16 0x34#8] := by decide +kernel

/-- A write keeps the addresses rising, in whatever order they are written (log entry 1). -/
theorem test_memory_stays_sorted :
    ((State.reset.memWrite 0x0002#16 1#8).memWrite 0x0001#16 2#8).mem = [(1, 2#8), (2, 1#8)] ∧
    Memory.wf ((State.reset.memWrite 0x0002#16 1#8).memWrite 0xFFFF#16 2#8).mem = true ∧
    Memory.wf [(2, 1#8), (1, 2#8)] = false ∧ Memory.wf [(0xFFFF, 1#8)] = false := by
  decide +kernel

/-! ## A witness for the hypotheses of each statement -/

/-- A core about to fetch one byte at `0x0100`. -/
def running (op : Byte) : State := load [(0x0100#16, op), (0x0101#16, 0x37#8)] 0x0100#16

/-- A halted core with source 4 enabled and requested. -/
def halted : State := { running 0x00#8 with halted := true, ieStored := 0x10#8, ifStored := 0x10#5 }

/-- A core with a request of one source, `IME` set. -/
def requested (p : BitVec 5) : State :=
  { running 0x00#8 with ime := true, ieStored := 0x1F#8, ifStored := p }

theorem running_fetches (op : Byte) : (running op).Fetches := by
  refine ⟨rfl, rfl, rfl⟩

/-- DecodeOfEncodeGivesInstruction: both profiles, an immediate and a failing fetch. -/
theorem witness_decode_of_encode :
    (Instr.ld_A_d8 0xFF#8).wf .sourceNamed = true ∧ Instr.set_7_A.wf .sm83Complete = true ∧
    (Instr.unmapped 0xFD#8).wf .sm83Complete = true ∧
    (Instr.prefix_CB 0x00#8).wf .sourceNamed = true := by decide +kernel

/-- EncodeOfDecodeGivesBytes. -/
theorem witness_encode_of_decode :
    decode .sm83Complete [0xCB#8, 0xFF#8, 0x00#8] = .instr .set_7_A [0x00#8] ∧
    decode .sourceNamed [0xC3#8, 0x34#8, 0x12#8] = .instr (.jp_a16 0x1234#16) [] := by decide +kernel

/-- StepRunsDecodedInstruction. -/
theorem witness_step_runs_decoded :
    (running 0xCB#8).Fetches ∧
    ∃ rest, decode (running 0xCB#8).cfg.profile
      [(running 0xCB#8).memRead (running 0xCB#8).pc, (running 0xCB#8).memRead (running 0xCB#8).cursor,
        (running 0xCB#8).memRead ((running 0xCB#8).cursor + 1#16)] = .instr .swap_A rest :=
  ⟨running_fetches _, _, rfl⟩

/-- HaltedCoreIdles. -/
theorem witness_halted_core :
    ({ halted with ifStored := 0#5 }).fault = none ∧ ({ halted with ifStored := 0#5 }).halted = true ∧
    ({ halted with ifStored := 0#5 }).pending = 0#5 := by decide +kernel

/-- WakeDoesNotConsumeStep, with `IME` 0 and with `IME` 1. -/
theorem witness_wake :
    halted.fault = none ∧ halted.halted = true ∧ halted.pending ≠ 0#5 ∧ halted.ime = false ∧
    ({ halted with ime := true }).pending ≠ 0#5 ∧ ({ halted with ime := true }).ime = true := by
  decide +kernel

/-- InterruptDispatch: the highest and the lowest priority. -/
theorem witness_dispatch_bounds :
    (requested 0x1F#5).fault = none ∧ (requested 0x1F#5).ime = true ∧
    (requested 0x1F#5).pending.getLsbD (intBit .vblank) = true ∧
    (∀ k, k < intBit .vblank → (requested 0x1F#5).pending.getLsbD k = false) ∧
    (requested 0x10#5).pending.getLsbD (intBit .joypad) = true ∧
    (∀ k, k < intBit .joypad → (requested 0x10#5).pending.getLsbD k = false) := by decide +kernel

/-- InterruptDispatch: the sources between. -/
theorem witness_dispatch_between :
    (requested 0x1E#5).pending.getLsbD (intBit .lcdStat) = true ∧
    (∀ k, k < intBit .lcdStat → (requested 0x1E#5).pending.getLsbD k = false) ∧
    (requested 0x04#5).pending.getLsbD (intBit .timer) = true ∧
    (∀ k, k < intBit .timer → (requested 0x04#5).pending.getLsbD k = false) ∧
    (requested 0x18#5).pending.getLsbD (intBit .serial) = true ∧
    (∀ k, k < intBit .serial → (requested 0x18#5).pending.getLsbD k = false) := by decide +kernel

/-- The state an execution answers, or the state itself. -/
def executed (s : State) : State :=
  match exec s.wake.fetch s.wake with
  | .next u => u
  | _ => s

/-- DelayedEnable: a clause where the schedule was set and stays set, and one where it was not set. -/
theorem witness_delayed_enable_nop :
    exec .nop { running 0x00#8 with imeScheduled := true } =
      .next (executed { running 0x00#8 with imeScheduled := true }) ∧
    (executed { running 0x00#8 with imeScheduled := true }).fault = none ∧
    (executed { running 0x00#8 with imeScheduled := true }).imeScheduled = true ∧
    (running 0x00#8).wake.fetch = .nop ∧ (running 0x00#8).imeScheduled = false :=
  ⟨rfl, rfl, rfl, rfl, rfl⟩

/-- DelayedEnable: the clauses of `EI` and `DI`. -/
theorem witness_delayed_enable_ei_di :
    (running 0xFB#8).wake.fetch = .ei ∧ (running 0xFB#8).imeScheduled = false ∧
    (executed (running 0xFB#8)).fault = none ∧ (running 0xF3#8).wake.fetch = .di ∧
    (executed (running 0xF3#8)).fault = none ∧ (executed (running 0xF3#8)).imeScheduled = false := by
  decide +kernel

/-- HaltBugRereadsOpcodeByte: each clause, `0xCB` under both profiles. -/
theorem witness_halt_bug_clauses :
    (running 0xCB#8).haltBug = false ∧ ({ running 0xCB#8 with haltBug := true }).haltBug = true ∧
    ({ running 0xCB#8 with haltBug := true }).memRead 0x0100#16 = 0xCB#8 ∧
    ({ running 0xCB#8 with haltBug := true }).cfg.profile = .sm83Complete ∧
    (inProfile .sourceNamed { running 0xCB#8 with haltBug := true }).cfg.profile = .sourceNamed ∧
    (inProfile .sourceNamed { running 0xCB#8 with haltBug := true }).memRead 0x0100#16 = 0xCB#8 := by
  decide +kernel

/-- UnmappedOpcodeLatchesFailure: a hole, a Tier G opcode and the prefix under `source_named`, and a mapped
opcode next to a hole. -/
theorem witness_unmapped_clauses :
    (running 0x10#8).Fetches ∧ (running 0x10#8).memRead 0x0100#16 = 0x10#8 ∧
    (running 0xFD#8).memRead 0x0100#16 = 0xFD#8 ∧
    (inProfile .sourceNamed (running 0xFF#8)).Fetches ∧
    (inProfile .sourceNamed (running 0xFF#8)).memRead 0x0100#16 = 0xFF#8 ∧
    (inProfile .sourceNamed (running 0xCB#8)).Fetches ∧
    (inProfile .sourceNamed (running 0xCB#8)).memRead 0x0100#16 = 0xCB#8 ∧
    (running 0xFE#8).memRead 0x0100#16 = 0xFE#8 ∧ (running 0xFE#8).cfg.profile = .sm83Complete ∧
    (inProfile .sourceNamed (running 0xFE#8)).Fetches ∧
    (inProfile .sourceNamed (running 0xFE#8)).memRead 0x0100#16 = 0xFE#8 := by
  refine ⟨running_fetches _, rfl, rfl, ⟨rfl, rfl, rfl⟩, rfl, ⟨rfl, rfl, rfl⟩, rfl, rfl, rfl, ⟨rfl, rfl, rfl⟩, rfl⟩

/-- StepStopsOnlyWhenLatched: both clauses. -/
theorem witness_latch_clauses :
    State.reset.fault = none ∧ (State.reset.fail 0xD3#8 0x0000#16 false).fault =
      some { byte := 0xD3#8, addr := 0x0000#16, wasPrefixed := false } := by decide +kernel

/-- MappedInstructionCompletes. -/
theorem witness_mapped : failureOf State.reset .set_7_A = none := by decide +kernel

/-- StepKeepsInvariant, StepKeepsParameters, StepWritesWhatItsAccessesSay: a state that meets `Inv` and
takes a step, an address away from IF, and IF in a step that dispatches nothing. -/
theorem witness_step_from_inv :
    (running 0xF5#8).Inv ∧ (∃ t, step (running 0xF5#8) = .next t) ∧ (0x0000#16 : Word) ≠ 0xFF0F#16 ∧
    ∀ i, (running 0xF5#8).event ≠ .dispatched i := by
  refine ⟨by unfold State.Inv; decide +kernel, ⟨_, rfl⟩, by decide, ?_⟩
  intro i h
  cases h

/-- EnableChangesOnlyByListedWriters: `IME` set by RETI, cleared by DI and by a dispatch. -/
theorem witness_enable_changes :
    stepsTo (running 0xD9#8) (fun t => t.ime != (running 0xD9#8).ime) = true ∧
    stepsTo { running 0xF3#8 with ime := true } (fun t => !t.ime) = true ∧
    stepsTo (requested 0x01#5) (fun t => !t.ime) = true := by decide +kernel

/-- HaltBitsChangeOnlyByListedWriters: each clause. -/
theorem witness_halt_bits :
    (running 0x76#8).halted = false ∧ stepsTo (running 0x76#8) (fun t => t.halted) = true ∧
    halted.halted = true ∧ stepsTo halted (fun t => !t.halted) = true ∧
    stepsTo { running 0x76#8 with ieStored := 0x01#8, ifStored := 0x01#5 } (fun t => t.haltBug) = true ∧
    stepsTo (running 0xFB#8) (fun t => t.imeScheduled) = true := by decide +kernel

/-- StackPointerWriters and FlagWriters. -/
theorem witness_writers :
    writesSP .add_HL_SP = false ∧ writesFlags .inc_SP = false ∧
    (∃ t, exec .add_HL_SP State.reset = .next t) ∧ ∃ t, exec .inc_SP State.reset = .next t :=
  ⟨rfl, rfl, ⟨_, rfl⟩, ⟨_, rfl⟩⟩

/-- BusRead and BusWrite: plain addresses next to the two registers, both widths of IE. -/
theorem witness_bus :
    (0xFF0E#16 : Word) ≠ 0xFF0F#16 ∧ (0xFF10#16 : Word) ≠ 0xFF0F#16 ∧
    (0xFFFE#16 : Word) ≠ 0xFFFF#16 ∧ (0x0000#16 : Word) ≠ 0xFFFF#16 ∧
    State.reset.cfg.ieWidth = .five ∧ (wideIe State.reset).cfg.ieWidth = .eight := by decide +kernel

/-- StackRoundTrip: the reset stack pointer, whose bytes are the two just below IE. -/
theorem witness_stack_round_trip :
    State.reset.sp - 1#16 ≠ 0xFF0F#16 ∧ State.reset.sp - 1#16 ≠ 0xFFFF#16 ∧
    State.reset.sp - 2#16 ≠ 0xFF0F#16 ∧ State.reset.sp - 2#16 ≠ 0xFFFF#16 := by decide +kernel

/-- DecimalAdjust: both clauses. -/
theorem witness_daa :
    State.reset.flagN = false ∧ ({ State.reset with f := 0x40#8 }).flagN = true := by decide +kernel

/-- Call and Return: a condition that holds and one that does not. -/
theorem witness_conditions :
    State.reset.cond .nz = true ∧ State.reset.cond .z = false ∧ State.reset.cond .nc = true ∧
    State.reset.cond .c = false ∧ ({ State.reset with f := 0x90#8 }).cond .z = true ∧
    ({ State.reset with f := 0x90#8 }).cond .c = true := by decide +kernel

/-- HaltThreeCases: each clause. -/
theorem witness_halt_cases :
    (requested 0x00#5).ime = true ∧ State.reset.ime = false ∧
    State.reset.ieStored &&& State.reset.ifStored.zeroExtend 8 = 0#8 ∧
    halted.ime = false ∧ halted.ieStored &&& halted.ifStored.zeroExtend 8 ≠ 0#8 := by decide +kernel

end Sys2Proof.Tests
end

/-! The launch parameters (00_scope.md R6): what the parts of a step leave of them. -/

namespace Sys2Proof.Machine

/-! ## The parts of a step around the execution -/

@[simp] theorem State.wake_cfg (s : State) : s.wake.cfg = s.cfg := by
  rw [s.wake_eq]

@[simp] theorem State.promote_cfg (b : Bool) (s : State) : (s.promote b).cfg = s.cfg := by
  rw [s.promote_eq b]

@[simp] theorem State.dispatch_cfg (s : State) (i : IntSource) : (s.dispatch i).cfg = s.cfg :=
  s.push16_cfg s.pc

/-! ## The execution -/

/-- `HALT` leaves the parameters alone in each of its cases (46_system.md R311). -/
theorem exec_halt_keeps_cfg {s t : State} (h : exec_halt s = .next t) : t.cfg = s.cfg := by
  unfold exec_halt at h
  split_ifs at h <;> cases h <;> rfl

/-- The instructions that write a control bit or the latch keep the parameters: each answers one
explicit state, `HALT` one of two. -/
theorem exec_control_keeps_cfg {i : Instr} {s t : State} (hi : writesControl i = true)
    (h : exec i s = .next t) : t.cfg = s.cfg := by
  cases i
  case halt => exact exec_halt_keeps_cfg h
  case ei | di | reti | unmapped | unmapped_STOP | prefix_CB => cases h; rfl
  all_goals exact Bool.noConfusion hi

/-- No instruction writes a parameter: `exec_kept` says so of all but the writers of a control bit
or the latch. -/
theorem exec_keeps_cfg {i : Instr} {s t : State} (h : exec i s = .next t) : t.cfg = s.cfg := by
  cases hi : writesControl i with
  | true => exact exec_control_keeps_cfg hi h
  | false =>
    obtain ⟨u, hu, kept⟩ := exec_kept i s hi
    rw [h] at hu
    cases hu
    exact kept.cfg

/-! ## The step -/

/-- Settles O18, along the three ways a step answers a next state (`step_cases`). -/
theorem stepKeepsParameters : Obligations.StepKeepsParameters := by
  intro s t h
  obtain ⟨-, ⟨-, rfl⟩ | ⟨-, i, -, rfl⟩ | ⟨-, -, u, hu, rfl⟩⟩ := step_cases h
  · exact s.wake_cfg
  · rw [State.dispatch_cfg, State.wake_cfg]
  · rw [State.promote_cfg, exec_keeps_cfg hu, State.wake_cfg]

end Sys2Proof.Machine

/-! What a step leaves of the state and of the control bits (10_state.md): the invariant, the writers of
`IME`, `halted`, `halt_bug` and `IME_scheduled`, and the frames of `SP` and `F`. -/

namespace Sys2Proof.Machine

/-! ## The fields around the execution -/

@[simp] theorem State.wake_ime (s : State) : s.wake.ime = s.ime := by rw [s.wake_eq]
@[simp] theorem State.wake_imeScheduled (s : State) : s.wake.imeScheduled = s.imeScheduled := by
  rw [s.wake_eq]
@[simp] theorem State.wake_haltBug (s : State) : s.wake.haltBug = s.haltBug := by rw [s.wake_eq]
@[simp] theorem State.wake_fault (s : State) : s.wake.fault = s.fault := by rw [s.wake_eq]
@[simp] theorem State.wake_halted (s : State) :
    s.wake.halted = (s.halted && s.pending == 0#5) := by rw [s.wake_eq]
@[simp] theorem State.wake_pending (s : State) : s.wake.pending = s.pending := by
  rw [s.wake_eq]; rfl

@[simp] theorem State.dispatch_ime (s : State) (i : IntSource) : (s.dispatch i).ime = false := rfl
@[simp] theorem State.dispatch_halted (s : State) (i : IntSource) :
    (s.dispatch i).halted = s.halted := s.push16_halted s.pc
@[simp] theorem State.dispatch_imeScheduled (s : State) (i : IntSource) :
    (s.dispatch i).imeScheduled = s.imeScheduled := s.push16_imeScheduled s.pc
@[simp] theorem State.dispatch_haltBug (s : State) (i : IntSource) :
    (s.dispatch i).haltBug = s.haltBug := s.push16_haltBug s.pc

@[simp] theorem State.promote_halted (b : Bool) (s : State) : (s.promote b).halted = s.halted := by
  rw [s.promote_eq b]
@[simp] theorem State.promote_haltBug (b : Bool) (s : State) :
    (s.promote b).haltBug = s.haltBug := by rw [s.promote_eq b]

/-- The delayed enable only ever sets `IME`, and only a schedule from before the step sets it (R141). -/
theorem State.promote_ime_cases (b : Bool) (s : State) :
    (s.promote b).ime = s.ime ∨ ((s.promote b).ime = true ∧ b = true) := by
  unfold State.promote
  split_ifs with hc
  · exact .inr ⟨rfl, hc.1⟩
  · exact .inl rfl

/-- The delayed enable never sets the schedule. -/
theorem State.imeScheduled_of_promote {b : Bool} {s : State}
    (h : (s.promote b).imeScheduled = true) : s.imeScheduled = true := by
  unfold State.promote at h
  split_ifs at h
  exact h

/-- A schedule that the execution left as it was is used up by the delayed enable (R141). -/
theorem State.promote_uses_schedule {b : Bool} {s : State} (hb : b = s.imeScheduled)
    (hf : s.fault = none) : (s.promote b).imeScheduled = false := by
  subst hb
  unfold State.promote
  split_ifs with hc
  · rfl
  · simpa [hf] using hc

/-- The wake halts no core. -/
theorem State.halted_of_wake {s : State} (h : s.wake.halted = true) : s.halted = true := by
  rw [State.wake_halted, Bool.and_eq_true] at h
  exact h.1

/-- A halted core is woken only by a pending interrupt (R133). -/
theorem State.pending_of_woken {s : State} (hs : s.halted = true) (hw : s.wake.halted = false) :
    s.pending ≠ 0#5 := by
  simpa [hs] using hw

/-! ## The execution -/

/-- The two outcomes of `HALT` with their conditions (46_system.md R311). -/
theorem exec_halt_cases {s t : State} (h : exec .halt s = .next t) :
    ((s.ime = true ∨ s.pending = 0#5) ∧ t = { s.advance 1 with halted := true }) ∨
      ((s.ime = false ∧ s.pending ≠ 0#5) ∧ t = { s.advance 1 with haltBug := true }) := by
  change exec_halt s = .next t at h
  unfold exec_halt at h
  split_ifs at h with hc <;> cases h
  · exact .inl ⟨hc, rfl⟩
  · exact .inr ⟨by simpa using hc, rfl⟩

/-- What the execution of an instruction can leave: a state that keeps what `Kept` names, or the
explicit state of a writer of a control bit or of the latch. -/
inductive Executed (s : State) : Instr → State → Prop
  | ordinary {i : Instr} {t : State} (hi : writesControl i = false) (kept : Kept s t) :
      Executed s i t
  | halts (hc : s.ime = true ∨ s.pending = 0#5) :
      Executed s .halt { s.advance 1 with halted := true }
  | haltBug (hime : s.ime = false) (hpending : s.pending ≠ 0#5) :
      Executed s .halt { s.advance 1 with haltBug := true }
  | ei : Executed s .ei { s.advance 1 with imeScheduled := true }
  | di : Executed s .di { s.advance 1 with ime := false, imeScheduled := false }
  | reti : Executed s .reti { (s.advance 1).returnPop with ime := true }
  | unmapped (op : Byte) : Executed s (.unmapped op) (s.fail op s.pc false)
  | unmappedStop : Executed s .unmapped_STOP (s.fail 0x10#8 s.pc false)
  | unmappedCb (cb : Byte) : Executed s (.prefix_CB cb) (s.fail cb s.cursor true)

/-- Every execution that answers a next state leaves one of the states of `Executed`. -/
theorem exec_executed {i : Instr} {s t : State} (h : exec i s = .next t) : Executed s i t := by
  cases hi : writesControl i with
  | false =>
    obtain ⟨u, hu, kept⟩ := exec_kept i s hi
    rw [h] at hu
    cases hu
    exact .ordinary hi kept
  | true =>
    cases i
    case halt =>
      obtain ⟨hc, rfl⟩ | ⟨⟨hime, hpending⟩, rfl⟩ := exec_halt_cases h
      · exact .halts hc
      · exact .haltBug hime hpending
    case ei => cases h; exact .ei
    case di => cases h; exact .di
    case reti => cases h; exact .reti
    case unmapped op => cases h; exact .unmapped op
    case unmapped_STOP => cases h; exact .unmappedStop
    case prefix_CB cb => cases h; exact .unmappedCb cb
    all_goals exact Bool.noConfusion hi

/-- Every instruction answers a next state: none faults and none is refused (60_exceptions.md R353). -/
theorem exec_completes (i : Instr) (s : State) : ∃ t, exec i s = .next t := by
  cases hi : writesControl i with
  | false =>
    obtain ⟨t, ht, -⟩ := exec_kept i s hi
    exact ⟨t, ht⟩
  | true =>
    cases i
    case halt | ei | di | reti | unmapped | unmapped_STOP | prefix_CB => exact ⟨_, rfl⟩
    all_goals exact Bool.noConfusion hi

/-- `IME` is written by `RETI` and `DI` alone. -/
theorem exec_ime_cases {i : Instr} {s t : State} (h : exec i s = .next t) :
    t.ime = s.ime ∨ (t.ime = true ∧ i = .reti) ∨ (t.ime = false ∧ i = .di) := by
  cases exec_executed h with
  | ordinary _ kept => exact .inl kept.ime
  | halts | haltBug | ei | unmapped | unmappedStop | unmappedCb => exact .inl rfl
  | di => exact .inr (.inr ⟨rfl, rfl⟩)
  | reti => exact .inr (.inl ⟨rfl, rfl⟩)

/-- Only `HALT` halts, and it writes nothing else but its advance (46_system.md R311). -/
theorem exec_halts {i : Instr} {s t : State} (h : exec i s = .next t) (hs : s.halted = false)
    (ht : t.halted = true) : i = .halt ∧ t = { s.advance 1 with halted := true } := by
  cases exec_executed h with
  | halts => exact ⟨rfl, rfl⟩
  | ordinary _ kept => exact absurd (kept.halted.symm.trans ht) (by simp [hs])
  | haltBug | ei | di | reti | unmapped | unmappedStop | unmappedCb =>
    exact absurd (hs.symm.trans ht) Bool.false_ne_true

/-- Only `HALT` with `IME` 0 and a pending interrupt sets the halt bug (R311). -/
theorem exec_sets_haltBug {i : Instr} {s t : State} (h : exec i s = .next t)
    (hs : s.haltBug = false) (ht : t.haltBug = true) :
    i = .halt ∧ s.ime = false ∧ s.pending ≠ 0#5 := by
  cases exec_executed h with
  | ordinary _ kept => exact absurd ((kept.haltBug hs).symm.trans ht) Bool.false_ne_true
  | haltBug hime hpending => exact ⟨rfl, hime, hpending⟩
  | halts | ei | di | reti => exact absurd ht Bool.false_ne_true
  | unmapped | unmappedStop | unmappedCb =>
    exact absurd (hs.symm.trans ht) Bool.false_ne_true

/-- Only `EI` sets the schedule (R312). -/
theorem exec_sets_imeScheduled {i : Instr} {s t : State} (h : exec i s = .next t)
    (hs : s.imeScheduled = false) (ht : t.imeScheduled = true) : i = .ei := by
  cases exec_executed h with
  | ordinary _ kept => exact absurd (kept.imeScheduled.symm.trans ht) (by simp [hs])
  | ei => rfl
  | halts | haltBug | reti | unmapped | unmappedStop | unmappedCb =>
    exact absurd (hs.symm.trans ht) Bool.false_ne_true
  | di => exact absurd ht Bool.false_ne_true

/-! ## The step by its cases -/

/-- The idle step (40_step_cycle.md R134). -/
theorem step_of_idle {s : State} (hf : s.fault = none) (hh : s.wake.halted = true) :
    step s = .next s.wake := by
  unfold step stepWith
  simp only [hf, hh, if_true]

/-- The dispatch (R135). -/
theorem step_of_dispatch {s : State} {i : IntSource} (hf : s.fault = none)
    (hh : s.wake.halted = false) (hi : s.wake.toDispatch = some i) :
    step s = .next (s.wake.dispatch i) := by
  unfold step stepWith
  simp only [hf, hh, hi, Bool.false_eq_true, if_false]

/-- The step that fetches (R136 to R141). -/
theorem step_of_fetches {s : State} (h : s.Fetches) :
    step s = promoteResult s.wake.imeScheduled (exec s.wake.fetch s.wake) := by
  obtain ⟨hf, hh, hi⟩ := h
  unfold step stepWith
  simp only [hf, hh, hi, Bool.false_eq_true, if_false]

/-- Settles O12: the latched step is `stepWith_latched`, the other one of three cases. -/
theorem stepStopsOnlyWhenLatched : Obligations.StepStopsOnlyWhenLatched := by
  intro s
  refine ⟨fun hf => ?_, fun x hx => stepWith_latched hx⟩
  cases hh : s.wake.halted with
  | true => exact ⟨_, step_of_idle hf hh⟩
  | false =>
    cases hi : s.wake.toDispatch with
    | some i => exact ⟨_, step_of_dispatch hf hh hi⟩
    | none =>
      obtain ⟨u, hu⟩ := exec_completes s.wake.fetch s.wake
      refine ⟨u.promote s.wake.imeScheduled, ?_⟩
      rw [step_of_fetches ⟨hf, hh, hi⟩, hu]
      rfl

/-! ## The invariant -/

/-- The clauses of `State.Inv` on how the state is held: the low nibble of `F` (10_state.md R21), the
form of the memory, the width of IE (R33). -/
def State.WellHeld (s : State) : Prop :=
  s.f &&& 0x0F#8 = 0#8 ∧ Memory.wf s.mem = true ∧
    (s.cfg.ieWidth = .five → s.ieStored &&& 0xE0#8 = 0#8)

/-- The clause of `State.Inv` on a halted core (R134, R136). -/
def State.HaltClear (s : State) : Prop :=
  s.halted = true → s.imeScheduled = false ∧ s.haltBug = false

theorem State.inv_iff (s : State) : s.Inv ↔ s.WellHeld ∧ s.HaltClear := by
  simp only [State.Inv, State.WellHeld, State.HaltClear, and_assoc]

theorem Kept.wellHeld {s t : State} (kept : Kept s t) (hs : s.WellHeld) : t.WellHeld := by
  obtain ⟨hlow, hform, hwidth⟩ := hs
  refine ⟨kept.low hlow, kept.form hform, fun hw => ?_⟩
  rw [kept.cfg] at hw
  exact kept.width hwidth hw

theorem State.wake_wellHeld {s : State} (hs : s.WellHeld) : s.wake.WellHeld := by
  rw [s.wake_eq]
  exact hs

theorem State.promote_wellHeld (b : Bool) {s : State} (hs : s.WellHeld) :
    (s.promote b).WellHeld := by
  rw [s.promote_eq b]
  exact hs

theorem State.dispatch_wellHeld (i : IntSource) {s : State} (hs : s.WellHeld) :
    (s.dispatch i).WellHeld :=
  (Kept.push16 s s.pc).wellHeld hs

theorem exec_wellHeld {i : Instr} {s t : State} (h : exec i s = .next t) (hs : s.WellHeld) :
    t.WellHeld := by
  cases exec_executed h with
  | ordinary _ kept => exact kept.wellHeld hs
  | halts | haltBug | ei | di | reti | unmapped | unmappedStop | unmappedCb => exact hs

/-- Along the three ways a step answers a next state (`step_cases`). -/
theorem step_wellHeld {s t : State} (h : step s = .next t) (hs : s.WellHeld) : t.WellHeld := by
  have hw := State.wake_wellHeld hs
  obtain ⟨-, ⟨-, rfl⟩ | ⟨-, i, -, rfl⟩ | ⟨-, -, u, hu, rfl⟩⟩ := step_cases h
  · exact hw
  · exact State.dispatch_wellHeld i hw
  · exact State.promote_wellHeld _ (exec_wellHeld hu hw)

/-- The idle step leaves the bits of a core that was halted already, a dispatch answers a running core,
and when `HALT` halts, the delayed enable uses up a schedule that was set (46_system.md R311). -/
theorem step_haltClear {s t : State} (h : step s = .next t) (hs : s.HaltClear) : t.HaltClear := by
  intro ht
  obtain ⟨hf, ⟨-, rfl⟩ | ⟨hh, i, -, rfl⟩ | ⟨hh, -, u, hu, rfl⟩⟩ := step_cases h
  · simpa using hs (State.halted_of_wake ht)
  · rw [State.dispatch_halted, hh] at ht
    exact absurd ht Bool.false_ne_true
  · rw [State.promote_halted] at ht
    obtain ⟨-, rfl⟩ := exec_halts hu hh ht
    exact ⟨State.promote_uses_schedule rfl (s.wake_fault.trans hf), State.promote_haltBug _ _⟩

/-- Settles O15: each of the two halves of the invariant is kept by itself. -/
theorem stepKeepsInvariant : Obligations.StepKeepsInvariant := by
  intro s t hs h
  rw [State.inv_iff] at hs ⊢
  exact ⟨step_wellHeld h hs.1, step_haltClear h hs.2⟩

/-- Settles O16: no byte is listed, and `F`, IE and `halted` are 0. -/
theorem resetMeetsInvariant : Obligations.ResetMeetsInvariant :=
  ⟨rfl, State.reset_memory_wf, fun _ => rfl, fun h => absurd h Bool.false_ne_true⟩

/-- At reset no byte is listed, so the bus reads the free image (10_state.md R40, R41). -/
theorem State.reset_memRead {x : Word} (h1 : x ≠ ifAddr) (h2 : x ≠ ieAddr) :
    State.reset.memRead x = Config.initialImage x := by
  simp only [State.memRead, if_neg h1, if_neg h2]
  rfl

/-- Settles O17: every field is a literal, and `State.reset_memRead` says what the bus reads. -/
theorem resetState : Obligations.ResetState :=
  ⟨rfl, rfl, rfl, rfl, rfl, rfl, rfl, rfl, rfl, rfl, rfl, rfl, rfl, rfl, rfl, rfl, rfl, rfl, rfl,
    fun _ => State.reset_memRead⟩

/-! ## The writers of the control bits -/

/-- Settles O19: a fetching step changes `IME` by its delayed enable or by its instruction. -/
theorem enableChangesOnlyByListedWriters : Obligations.EnableChangesOnlyByListedWriters := by
  intro s t h hne
  obtain ⟨hf, ⟨-, rfl⟩ | ⟨-, i, hi, rfl⟩ | ⟨hh, hi, u, hu, rfl⟩⟩ := step_cases h
  · exact absurd s.wake_ime hne
  · exact .inr ⟨rfl, .inr ⟨i, hi⟩⟩
  · have hfetch : s.Fetches := ⟨hf, hh, hi⟩
    obtain hp | ⟨hp, hb⟩ := u.promote_ime_cases s.wake.imeScheduled
    · rw [hp] at hne ⊢
      obtain hkept | ⟨ht, hreti⟩ | ⟨ht, hdi⟩ := exec_ime_cases hu
      · exact absurd (hkept.trans s.wake_ime) hne
      · exact .inl ⟨ht, hfetch, .inr hreti⟩
      · exact .inr ⟨ht, .inl ⟨hfetch, hdi⟩⟩
    · exact .inl ⟨hp, hfetch, .inl (s.wake_imeScheduled.symm.trans hb)⟩

/-- Settles O20: of the three kinds of step only the fetching one sets a bit. -/
theorem haltBitsChangeOnlyByListedWriters : Obligations.HaltBitsChangeOnlyByListedWriters := by
  intro s t h
  obtain ⟨hf, ⟨-, rfl⟩ | ⟨hh, i, -, rfl⟩ | ⟨hh, hi, u, hu, rfl⟩⟩ := step_cases h
  · exact ⟨fun hs => by simp [hs], State.pending_of_woken, fun hs => by simp [hs],
      fun hs => by simp [hs]⟩
  · exact ⟨fun hs => by simp [hs], fun hs _ => State.pending_of_woken hs hh,
      fun hs => by simp [hs], fun hs => by simp [hs]⟩
  · have hfetch : s.Fetches := ⟨hf, hh, hi⟩
    refine ⟨fun _ ht => ?_, fun hs _ => State.pending_of_woken hs hh, fun hs ht => ?_,
      fun hs ht => ?_⟩
    · rw [State.promote_halted] at ht
      exact ⟨hfetch, (exec_halts hu hh ht).1⟩
    · rw [State.promote_haltBug] at ht
      obtain ⟨hhalt, hime, hpending⟩ := exec_sets_haltBug hu (s.wake_haltBug.trans hs) ht
      exact ⟨hfetch, hhalt, s.wake_ime.symm.trans hime, s.wake_pending ▸ hpending⟩
    · exact ⟨hfetch, exec_sets_imeScheduled hu (s.wake_imeScheduled.trans hs)
        (State.imeScheduled_of_promote ht)⟩

/-! ## The frame of `SP` -/

@[simp] theorem State.setOperand_sp (s : State) (o : Operand8) (v : Byte) :
    (s.setOperand o v).sp = s.sp := by
  cases o with
  | reg r => exact s.setReg_sp r v
  | mHL => exact s.memWrite_sp s.hl v

theorem State.setPair_sp {p : Pair16} (hp : p ≠ .sp) (s : State) (v : Word) :
    (s.setPair p v).sp = s.sp := by
  cases p with
  | bc | de | hl => rfl
  | sp => exact absurd rfl hp

@[simp] theorem aluValue_sp (op : AluOp) (v : Byte) (s : State) :
    (aluValue op v s).sp = s.sp := by rw [aluValue_eq]
@[simp] theorem aluOperand_sp (op : AluOp) (o : Operand8) (s : State) :
    (aluOperand op o s).sp = s.sp := by simp [aluOperand]
@[simp] theorem aluImmediate_sp (op : AluOp) (v : Byte) (s : State) :
    (aluImmediate op v s).sp = s.sp := by simp [aluImmediate]
@[simp] theorem incOperand_sp (o : Operand8) (s : State) :
    (incOperand o s).sp = s.sp := by simp [incOperand]
@[simp] theorem decOperand_sp (o : Operand8) (s : State) :
    (decOperand o s).sp = s.sp := by simp [decOperand]
@[simp] theorem rotateA_sp (op : ShiftOp) (s : State) :
    (rotateA op s).sp = s.sp := by simp [rotateA]
@[simp] theorem daaA_sp (s : State) : (daaA s).sp = s.sp := by simp [daaA]
@[simp] theorem addHLPair_sp (p : Pair16) (s : State) :
    (addHLPair p s).sp = s.sp := by simp [addHLPair]
@[simp] theorem shiftOperand_sp (op : ShiftOp) (o : Operand8) (s : State) :
    (shiftOperand op o s).sp = s.sp := by simp [shiftOperand]
@[simp] theorem testOperand_sp (b : Oct) (o : Operand8) (s : State) :
    (testOperand b o s).sp = s.sp := by simp [testOperand]
@[simp] theorem resetOperand_sp (b : Oct) (o : Operand8) (s : State) :
    (resetOperand b o s).sp = s.sp := by simp [resetOperand]
@[simp] theorem setOperandBit_sp (b : Oct) (o : Operand8) (s : State) :
    (setOperandBit b o s).sp = s.sp := by simp [setOperandBit]
@[simp] theorem loadOperand_sp (o q : Operand8) (s : State) :
    (loadOperand o q s).sp = s.sp := by simp [loadOperand]
@[simp] theorem loadImmediate_sp (o : Operand8) (v : Byte) (s : State) :
    (loadImmediate o v s).sp = s.sp := by simp [loadImmediate]
@[simp] theorem loadAFrom_sp (n : Nat) (x : Word) (s : State) :
    (loadAFrom n x s).sp = s.sp := by simp [loadAFrom]
@[simp] theorem storeATo_sp (n : Nat) (x : Word) (s : State) :
    (storeATo n x s).sp = s.sp := by simp [storeATo]
@[simp] theorem storeWord_sp (x v : Word) (s : State) :
    (storeWord x v s).sp = s.sp := by simp [storeWord]
@[simp] theorem jumpIf_sp (b : Bool) (x : Word) (s : State) : (jumpIf b x s).sp = s.sp := by
  cases b <;> simp [jumpIf]
@[simp] theorem relJumpIf_sp (b : Bool) (e : Byte) (s : State) : (relJumpIf b e s).sp = s.sp := by
  cases b <;> simp [relJumpIf]
@[simp] theorem spOffsetFlags_sp (e : Byte) (s t : State) :
    (spOffsetFlags e s t).sp = t.sp := by simp [spOffsetFlags]
@[simp] theorem incPair_sp {p : Pair16} (hp : p ≠ .sp) (s : State) : (incPair p s).sp = s.sp :=
  State.setPair_sp hp _ _
@[simp] theorem decPair_sp {p : Pair16} (hp : p ≠ .sp) (s : State) : (decPair p s).sp = s.sp :=
  State.setPair_sp hp _ _
@[simp] theorem loadPair_sp {p : Pair16} (hp : p ≠ .sp) (v : Word) (s : State) :
    (loadPair p v s).sp = s.sp := State.setPair_sp hp _ _

/-- Every instruction outside the list of 10_state.md R26 keeps `SP`: `hi` excludes the listed ones, and
of each other one the lemma of its family says so. -/
theorem exec_keeps_sp {i : Instr} {s t : State} (hi : writesSP i = false)
    (h : exec i s = .next t) : t.sp = s.sp := by
  cases i
  case halt => obtain ⟨-, rfl⟩ | ⟨-, rfl⟩ := exec_halt_cases h <;> rfl
  all_goals first
    | exact Bool.noConfusion hi
    | cases h; simp

/-- Settles O21 by `exec_keeps_sp`. -/
theorem stackPointerWriters : Obligations.StackPointerWriters :=
  fun _ _ _ => exec_keeps_sp

/-! ## The frame of `F` -/

@[simp] theorem State.setOperand_f (s : State) (o : Operand8) (v : Byte) :
    (s.setOperand o v).f = s.f := by
  cases o with
  | reg r => exact s.setReg_f r v
  | mHL => exact s.memWrite_f s.hl v

@[simp] theorem resetOperand_f (b : Oct) (o : Operand8) (s : State) :
    (resetOperand b o s).f = s.f := by simp [resetOperand]
@[simp] theorem setOperandBit_f (b : Oct) (o : Operand8) (s : State) :
    (setOperandBit b o s).f = s.f := by simp [setOperandBit]
@[simp] theorem loadOperand_f (o q : Operand8) (s : State) :
    (loadOperand o q s).f = s.f := by simp [loadOperand]
@[simp] theorem loadImmediate_f (o : Operand8) (v : Byte) (s : State) :
    (loadImmediate o v s).f = s.f := by simp [loadImmediate]
@[simp] theorem loadAFrom_f (n : Nat) (x : Word) (s : State) :
    (loadAFrom n x s).f = s.f := by simp [loadAFrom]
@[simp] theorem storeATo_f (n : Nat) (x : Word) (s : State) :
    (storeATo n x s).f = s.f := by simp [storeATo]
@[simp] theorem storeWord_f (x v : Word) (s : State) :
    (storeWord x v s).f = s.f := by simp [storeWord]
@[simp] theorem loadPair_f (p : Pair16) (v : Word) (s : State) :
    (loadPair p v s).f = s.f := by simp [loadPair]
@[simp] theorem incPair_f (p : Pair16) (s : State) : (incPair p s).f = s.f := by simp [incPair]
@[simp] theorem decPair_f (p : Pair16) (s : State) : (decPair p s).f = s.f := by simp [decPair]
@[simp] theorem pushPair_f (p : StackPair) (s : State) :
    (pushPair p s).f = s.f := by simp [pushPair]
@[simp] theorem popPair_f {p : StackPair} (hp : p ≠ .af) (s : State) : (popPair p s).f = s.f := by
  cases p with
  | bc | de | hl => rfl
  | af => exact absurd rfl hp
@[simp] theorem jumpIf_f (b : Bool) (x : Word) (s : State) : (jumpIf b x s).f = s.f := by
  cases b <;> simp [jumpIf]
@[simp] theorem relJumpIf_f (b : Bool) (e : Byte) (s : State) : (relJumpIf b e s).f = s.f := by
  cases b <;> simp [relJumpIf]
@[simp] theorem callIf_f (b : Bool) (x : Word) (s : State) : (callIf b x s).f = s.f := by
  cases b <;> simp [callIf]
@[simp] theorem returnIf_f (b : Bool) (s : State) : (returnIf b s).f = s.f := by
  cases b <;> simp [returnIf]
@[simp] theorem restart_f (y : Oct) (s : State) : (restart y s).f = s.f := by simp [restart]

/-- Every instruction outside the table of 10_state.md R37 keeps `F`: `hi` excludes the listed ones, and
of each other one the lemma of its family says so. -/
theorem exec_keeps_f {i : Instr} {s t : State} (hi : writesFlags i = false)
    (h : exec i s = .next t) : t.f = s.f := by
  cases i
  case halt => obtain ⟨-, rfl⟩ | ⟨-, rfl⟩ := exec_halt_cases h <;> rfl
  all_goals first
    | exact Bool.noConfusion hi
    | cases h; simp

/-- Settles O22 by `exec_keeps_f`. -/
theorem flagWriters : Obligations.FlagWriters :=
  fun _ _ _ => exec_keeps_f

end Sys2Proof.Machine

/-! The bus (20_memory.md): reads, writes, and that the memory after a step is the memory before it with
the accesses of the step performed. -/

namespace Sys2Proof.Machine

/-! ## One read and one write -/

/-- The three ones above the five stored bits of IF (R61). -/
theorem ifRead_eq (v : BitVec 5) : v.zeroExtend 8 ||| 0xE0#8 = BitVec.ofNat 8 (v.toNat + 0xE0) := by
  revert v; decide

theorem State.memRead_if (s : State) : s.memRead ifAddr = s.ifStored.zeroExtend 8 ||| 0xE0#8 := rfl

theorem State.memRead_ie (s : State) : s.memRead ieAddr = s.ieStored := rfl

theorem State.memRead_plain (s : State) {x : Word} (h1 : x ≠ ifAddr) (h2 : x ≠ ieAddr) :
    s.memRead x = (Memory.lookup s.mem x.toNat).getD (Config.initialImage x) := by
  simp only [State.memRead, if_neg h1, if_neg h2, State.storage]

/-- Settles O24, one branch of the read for each clause. -/
theorem busRead : Obligations.BusRead := fun s =>
  ⟨s.memRead_if.trans (ifRead_eq _), s.memRead_ie, fun _ => s.memRead_plain⟩

theorem State.readBack_plain (s : State) {x : Word} (h1 : x ≠ ifAddr) (h2 : x ≠ ieAddr) (v : Byte) :
    s.readBack x v = v := by
  simp only [State.readBack, if_neg h1, if_neg h2]

theorem State.readBack_if (s : State) (v : Byte) : s.readBack ifAddr v = v ||| 0xE0#8 := rfl

theorem State.readBack_ie (s : State) (v : Byte) :
    s.readBack ieAddr v = ieMask s.cfg.ieWidth v := rfl

/-- Settles O25: what the written address reads as is `readBack`, which is taken at a plain address and
at the two interrupt registers. -/
theorem busWrite : Obligations.BusWrite := by
  intro s x v
  refine ⟨s.memWrite_same x v, fun h1 h2 => ?_, rfl, ?_, fun hw => ?_, fun hw => ?_,
    s.memRead_memWrite_same x v, fun y => s.memRead_memWrite_other x y v⟩
  · exact (s.memRead_memWrite_same x v).trans (s.readBack_plain h1 h2 v)
  · exact (s.memRead_memWrite_same ifAddr v).trans (s.readBack_if v)
  · exact (s.memRead_memWrite_same ieAddr v).trans (by rw [s.readBack_ie, hw]; rfl)
  · exact (s.memRead_memWrite_same ieAddr v).trans (by rw [s.readBack_ie, hw]; rfl)

/-! ## States alike on the bus -/

/-- `t` reads at every address as `s` and masks a write as `s` does. -/
structure SameBus (s t : State) : Prop where
  cfg : t.cfg = s.cfg
  bytes : SameBytes s t

theorem State.readBack_congr {s t : State} (h : t.cfg = s.cfg) (x : Word) (v : Byte) :
    t.readBack x v = s.readBack x v := by
  simp only [State.readBack, h]

theorem State.memRead_memWrite (s : State) (x y : Word) (v : Byte) :
    (s.memWrite x v).memRead y = if y = x then s.readBack y v else s.memRead y := by
  split_ifs with h
  · subst h
    exact s.memRead_memWrite_same y v
  · exact s.memRead_memWrite_other x y v h

theorem SameBus.memWrite {s t : State} (h : SameBus s t) (x : Word) (v : Byte) :
    SameBus (s.memWrite x v) (t.memWrite x v) where
  cfg := by rw [State.memWrite_cfg, State.memWrite_cfg, h.cfg]
  bytes y := by
    rw [State.memRead_memWrite, State.memRead_memWrite, State.readBack_congr h.cfg, h.bytes y]

/-- The same accesses keep two states alike. -/
theorem SameBus.accesses {s t : State} (h : SameBus s t) (l : List BusAccess) :
    SameBus (s.accesses l) (t.accesses l) := by
  induction l generalizing s t with
  | nil => exact h
  | cons a l ih =>
    cases a with
    | read x => exact ih h
    | write x v => exact ih (h.memWrite x v)

theorem State.advance_sameBus (s : State) (n : Nat) : SameBus s (s.advance n) := ⟨rfl, fun _ => rfl⟩

theorem State.wake_sameBus (s : State) : SameBus s s.wake := by
  rw [s.wake_eq]
  exact ⟨rfl, fun _ => rfl⟩

@[simp] theorem State.promote_memRead (b : Bool) (s : State) (y : Word) :
    (s.promote b).memRead y = s.memRead y := by
  rw [s.promote_eq b]
  rfl

/-! ## Lists of accesses -/

@[simp] theorem State.accesses_nil (s : State) : s.accesses [] = s := rfl

@[simp] theorem State.accesses_read (s : State) (x : Word) (l : List BusAccess) :
    s.accesses (.read x :: l) = s.accesses l := rfl

@[simp] theorem State.accesses_write (s : State) (x : Word) (v : Byte) (l : List BusAccess) :
    s.accesses (.write x v :: l) = (s.memWrite x v).accesses l := rfl

theorem State.accesses_append (s : State) (l m : List BusAccess) :
    s.accesses (l ++ m) = (s.accesses l).accesses m := List.foldl_append

/-- Reads change nothing (R61). -/
theorem State.accesses_reads (s : State) {ι : Type} (f : ι → Word) (l : List ι) :
    s.accesses (l.map fun k => .read (f k)) = s := by
  induction l with
  | nil => rfl
  | cons k l ih => exact ih

theorem State.accesses_fetchAccesses (s w : State) (i : Instr) :
    s.accesses (fetchAccesses w i) = s :=
  s.accesses_reads (fun k => w.cursor + BitVec.ofNat 16 k) (List.range (i.length - 1))

@[simp] theorem State.accesses_pops (s w : State) : s.accesses (pops w) = s := rfl

@[simp] theorem State.accesses_pops_if (s w : State) (b : Bool) :
    s.accesses (if b then pops w else []) = s := by
  cases b <;> rfl

@[simp] theorem State.accesses_updates (s w : State) (v : Byte) :
    s.accesses (updates w v) = s.memWrite w.hl v := rfl

@[simp] theorem State.memRead_accesses_pushes (s : State) (v y : Word) :
    (s.accesses (pushes s v)).memRead y = (s.push16 v).memRead y := by
  rw [State.push16_eq]
  rfl

/-! ## The execution -/

@[simp] theorem State.operand_mHL (s : State) : s.operand .mHL = s.memRead s.hl := rfl

@[simp] theorem State.operand_reg (s : State) (r : Reg8) : s.operand (.reg r) = s.reg r := rfl

@[simp] theorem State.setOperand_mHL (s : State) (v : Byte) :
    s.setOperand .mHL v = s.memWrite s.hl v := rfl

@[simp] theorem State.setOperand_reg (s : State) (r : Reg8) (v : Byte) :
    s.setOperand (.reg r) v = s.setReg r v := rfl

@[simp] theorem State.advance_memWrite_memRead (s : State) (n : Nat) (x y : Word) (v : Byte) :
    ((s.advance n).memWrite x v).memRead y = (s.memWrite x v).memRead y :=
  ((s.advance_sameBus n).memWrite x v).bytes y

@[simp] theorem State.advance_push16_memRead (s : State) (n : Nat) (v y : Word) :
    ((s.advance n).push16 v).memRead y = (s.push16 v).memRead y := by
  rw [← State.memRead_accesses_pushes, ← State.memRead_accesses_pushes]
  exact ((s.advance_sameBus n).accesses (pushes s v)).bytes y

@[simp] theorem State.advance_setOperand_memRead (s : State) (n : Nat) (o : Operand8) (v : Byte)
    (y : Word) : ((s.advance n).setOperand o v).memRead y = (s.setOperand o v).memRead y := by
  cases o with
  | reg r => simp
  | mHL => exact s.advance_memWrite_memRead n s.hl y v

@[simp] theorem aluValue_memRead (op : AluOp) (v : Byte) (s : State) (y : Word) :
    (aluValue op v s).memRead y = s.memRead y := by
  rw [aluValue_eq]
  rfl
@[simp] theorem aluOperand_memRead (op : AluOp) (o : Operand8) (s : State) (y : Word) :
    (aluOperand op o s).memRead y = s.memRead y := by simp [aluOperand]
@[simp] theorem aluImmediate_memRead (op : AluOp) (v : Byte) (s : State) (y : Word) :
    (aluImmediate op v s).memRead y = s.memRead y := by simp [aluImmediate]
@[simp] theorem incOperand_memRead (o : Operand8) (s : State) (y : Word) :
    (incOperand o s).memRead y =
      (s.setOperand o (inc8 (s.operand o) s.flagC).res).memRead y := by simp [incOperand]
@[simp] theorem decOperand_memRead (o : Operand8) (s : State) (y : Word) :
    (decOperand o s).memRead y =
      (s.setOperand o (dec8 (s.operand o) s.flagC).res).memRead y := by simp [decOperand]
@[simp] theorem rotateA_memRead (op : ShiftOp) (s : State) (y : Word) :
    (rotateA op s).memRead y = s.memRead y := rfl
@[simp] theorem daaA_memRead (s : State) (y : Word) : (daaA s).memRead y = s.memRead y := rfl
@[simp] theorem addHLPair_memRead (p : Pair16) (s : State) (y : Word) :
    (addHLPair p s).memRead y = s.memRead y := rfl
@[simp] theorem spOffsetFlags_memRead (e : Byte) (s t : State) (y : Word) :
    (spOffsetFlags e s t).memRead y = t.memRead y := rfl
@[simp] theorem incPair_memRead (p : Pair16) (s : State) (y : Word) :
    (incPair p s).memRead y = s.memRead y := by simp [incPair]
@[simp] theorem decPair_memRead (p : Pair16) (s : State) (y : Word) :
    (decPair p s).memRead y = s.memRead y := by simp [decPair]
@[simp] theorem loadPair_memRead (p : Pair16) (v : Word) (s : State) (y : Word) :
    (loadPair p v s).memRead y = s.memRead y := by simp [loadPair]
@[simp] theorem pushPair_memRead (p : StackPair) (s : State) (y : Word) :
    (pushPair p s).memRead y = (s.push16 (s.stackPair p)).memRead y := by simp [pushPair]
@[simp] theorem popPair_memRead (p : StackPair) (s : State) (y : Word) :
    (popPair p s).memRead y = s.memRead y := by simp [popPair]
@[simp] theorem loadOperand_memRead (o q : Operand8) (s : State) (y : Word) :
    (loadOperand o q s).memRead y = (s.setOperand o (s.operand q)).memRead y := by
  simp [loadOperand]
@[simp] theorem loadImmediate_memRead (o : Operand8) (v : Byte) (s : State) (y : Word) :
    (loadImmediate o v s).memRead y = (s.setOperand o v).memRead y := by simp [loadImmediate]
@[simp] theorem loadAFrom_memRead (n : Nat) (x : Word) (s : State) (y : Word) :
    (loadAFrom n x s).memRead y = s.memRead y := rfl
@[simp] theorem storeATo_memRead (n : Nat) (x : Word) (s : State) (y : Word) :
    (storeATo n x s).memRead y = (s.memWrite x s.a).memRead y := by simp [storeATo]
@[simp] theorem shiftOperand_memRead (op : ShiftOp) (o : Operand8) (s : State) (y : Word) :
    (shiftOperand op o s).memRead y =
      (s.setOperand o (shiftRes op (s.operand o) s.flagC)).memRead y := by simp [shiftOperand]
@[simp] theorem testOperand_memRead (b : Oct) (o : Operand8) (s : State) (y : Word) :
    (testOperand b o s).memRead y = s.memRead y := rfl
@[simp] theorem resetOperand_memRead (b : Oct) (o : Operand8) (s : State) (y : Word) :
    (resetOperand b o s).memRead y =
      (s.setOperand o (resetBit b (s.operand o))).memRead y := by simp [resetOperand]
@[simp] theorem setOperandBit_memRead (b : Oct) (o : Operand8) (s : State) (y : Word) :
    (setOperandBit b o s).memRead y =
      (s.setOperand o (setBit b (s.operand o))).memRead y := by simp [setOperandBit]
@[simp] theorem jumpIf_memRead (b : Bool) (x : Word) (s : State) (y : Word) :
    (jumpIf b x s).memRead y = s.memRead y := by cases b <;> rfl
@[simp] theorem relJumpIf_memRead (b : Bool) (e : Byte) (s : State) (y : Word) :
    (relJumpIf b e s).memRead y = s.memRead y := by cases b <;> rfl
@[simp] theorem returnIf_memRead (b : Bool) (s : State) (y : Word) :
    (returnIf b s).memRead y = s.memRead y := by cases b <;> rfl
@[simp] theorem callIf_memRead (b : Bool) (x : Word) (s : State) (y : Word) :
    (callIf b x s).memRead y =
      (s.accesses (if b then pushes s (s.next 3) else [])).memRead y := by
  cases b with
  | false => rfl
  | true =>
    rw [if_pos rfl, State.memRead_accesses_pushes]
    exact s.advance_push16_memRead 3 (s.next 3) y
@[simp] theorem restart_memRead (z : Oct) (s : State) (y : Word) :
    (restart z s).memRead y = (s.push16 (s.next 1)).memRead y :=
  s.advance_push16_memRead 1 (s.next 1) y
@[simp] theorem storeWord_advance_memRead (n : Nat) (x v y : Word) (s : State) :
    (storeWord x v (s.advance n)).memRead y = (storeWord x v s).memRead y :=
  (((s.advance_sameBus n).memWrite x _).memWrite (x + 1#16) _).bytes y

/-- The bytes after an execution are those its data accesses leave: `HALT` and the instructions with no
family of their own touch no byte, and of each other one the lemma of its family says so. -/
theorem exec_memRead {i : Instr} {s t : State} (h : exec i s = .next t) (y : Word) :
    t.memRead y = (s.accesses (dataAccesses s i)).memRead y := by
  cases i
  case halt => obtain ⟨-, rfl⟩ | ⟨-, rfl⟩ := exec_halt_cases h <;> rfl
  case ei | di | reti | jp_HL | ld_SP_HL | cpl | add_SP_e8 => cases h; rfl
  case ld_ma16_SP x => cases h; exact storeWord_advance_memRead 3 x s.sp y s
  all_goals cases h; simp [dataAccesses]

/-! ## The step -/

theorem stepAccesses_of_idle {s : State} (hf : s.fault = none) (hh : s.wake.halted = true) :
    stepAccesses s = [.read ieAddr, .read ifAddr] := by
  simp only [stepAccesses, hf, hh, if_true, List.append_nil]

theorem stepAccesses_of_dispatch {s : State} {i : IntSource} (hf : s.fault = none)
    (hh : s.wake.halted = false) (hi : s.wake.toDispatch = some i) :
    stepAccesses s = [.read ieAddr, .read ifAddr] ++ pushes s.wake s.wake.pc := by
  simp only [stepAccesses, hf, hh, hi, Bool.false_eq_true, if_false]

theorem stepAccesses_of_fetches {s : State} (h : s.Fetches) :
    stepAccesses s = [.read ieAddr, .read ifAddr] ++
      (fetchAccesses s.wake s.wake.fetch ++ dataAccesses s.wake s.wake.fetch) := by
  obtain ⟨hf, hh, hi⟩ := h
  simp only [stepAccesses, hf, hh, hi, Bool.false_eq_true, if_false]

theorem event_of_dispatch {s : State} {i : IntSource} (hf : s.fault = none)
    (hh : s.wake.halted = false) (hi : s.wake.toDispatch = some i) : s.event = .dispatched i := by
  simp only [State.event, hf, hh, hi, Bool.false_eq_true, if_false]

/-- A dispatch changes what its push writes, and IF (60_exceptions.md R358). -/
theorem State.dispatch_memRead (s : State) (i : IntSource) {x : Word} (hx : x ≠ ifAddr) :
    (s.dispatch i).memRead x = (s.push16 s.pc).memRead x := by
  simp only [State.memRead, if_neg hx]
  rfl

/-- Settles O23, along the three ways a step answers a next state (`step_cases`): the idle step writes
nothing, a dispatch pushes `PC`, and a fetching step makes the data accesses of its instruction. -/
theorem stepWritesWhatItsAccessesSay : Obligations.StepWritesWhatItsAccessesSay := by
  intro s t h x hx
  obtain ⟨hf, ⟨hh, rfl⟩ | ⟨hh, i, hi, rfl⟩ | ⟨hh, hi, u, hu, rfl⟩⟩ := step_cases h
  · rw [stepAccesses_of_idle hf hh]
    exact s.wake_sameBus.bytes x
  · have hif : x ≠ ifAddr := hx.resolve_right fun hn => hn i (event_of_dispatch hf hh hi)
    calc (s.wake.dispatch i).memRead x
      _ = (s.wake.push16 s.wake.pc).memRead x := s.wake.dispatch_memRead i hif
      _ = (s.wake.accesses (pushes s.wake s.wake.pc)).memRead x :=
        (s.wake.memRead_accesses_pushes s.wake.pc x).symm
      _ = (s.accesses (pushes s.wake s.wake.pc)).memRead x := (s.wake_sameBus.accesses _).bytes x
      _ = (s.accesses (stepAccesses s)).memRead x := by rw [stepAccesses_of_dispatch hf hh hi]; rfl
  · calc (u.promote s.wake.imeScheduled).memRead x
      _ = u.memRead x := u.promote_memRead _ x
      _ = (s.wake.accesses (dataAccesses s.wake s.wake.fetch)).memRead x := exec_memRead hu x
      _ = (s.accesses (dataAccesses s.wake s.wake.fetch)).memRead x :=
        (s.wake_sameBus.accesses _).bytes x
      _ = (s.accesses (stepAccesses s)).memRead x := by
        rw [stepAccesses_of_fetches ⟨hf, hh, hi⟩, State.accesses_append, State.accesses_append,
          State.accesses_fetchAccesses]
        rfl

end Sys2Proof.Machine

/-! The decoder and the encoder (30_encoding.md R90 to R105). The key fact is `decodeInstr_eq_iff`:
decoding answers an instruction exactly when the profile has it and its encoding begins the bytes
read. -/

namespace Sys2Proof.Machine

/-! ## The fields of an opcode -/

/-- The byte with the fields `x`, `y` and `z` (R91). -/
def opcodeOf (x : BitVec 2) (y z : Oct) : Byte :=
  x ++ (BitVec.ofNat 3 y.toNat ++ BitVec.ofNat 3 z.toNat)

theorem ofNat_toNat_ofBits (v : BitVec 3) : BitVec.ofNat 3 (Oct.ofBits v).toNat = v := by
  revert v; decide

theorem fieldX_cases (x : BitVec 2) : x = 0#2 ∨ x = 1#2 ∨ x = 2#2 ∨ x = 3#2 := by
  revert x; decide

theorem opcodeOf_fields (op : Byte) :
    opcodeOf (fieldX op) (Oct.ofBits (fieldY op)) (Oct.ofBits (fieldZ op)) = op := by
  rw [opcodeOf, ofNat_toNat_ofBits, ofNat_toNat_ofBits, fieldX, fieldY, fieldZ,
    BitVec.extractLsb'_append_extractLsb'_eq_extractLsb' (start₁ := 0) (start₂ := 3) rfl,
    BitVec.extractLsb'_append_extractLsb'_eq_extractLsb' (start₁ := 0) (start₂ := 6) rfl]
  exact BitVec.extractLsb'_eq_self

/-- What holds of every entry of the four quarters of the base table holds of `decodeBase`; an entry
is a function of the two bytes after the opcode. -/
theorem decodeBase_cases {P : Byte → (Byte → Byte → Instr) → Prop}
    (x0 : ∀ y z, P (opcodeOf 0#2 y z) fun b1 b2 => decodeX0 b1 b2 y z)
    (x1 : ∀ y z, P (opcodeOf 1#2 y z) fun _ _ => Forms.ld (Operand8.ofOct y) (Operand8.ofOct z))
    (x2 : ∀ y z, P (opcodeOf 2#2 y z) fun _ _ => Forms.alu (AluOp.ofOct y) (Operand8.ofOct z))
    (x3 : ∀ y z, P (opcodeOf 3#2 y z) fun b1 b2 => decodeX3 b1 b2 y z) (op : Byte) :
    P op (decodeBase op) := by
  have hop := opcodeOf_fields op
  unfold decodeBase
  generalize fieldX op = x, Oct.ofBits (fieldY op) = y, Oct.ofBits (fieldZ op) = z at hop ⊢
  subst hop
  obtain rfl | rfl | rfl | rfl := fieldX_cases x
  exacts [x0 y z, x1 y z, x2 y z, x3 y z]

/-- What holds of every entry of the four quarters of the CB table holds of `decodeCb`. -/
theorem decodeCb_cases {P : Byte → Instr → Prop}
    (shift : ∀ y z, P (opcodeOf 0#2 y z) (Forms.shift (ShiftOp.ofOct y) (Operand8.ofOct z)))
    (bit : ∀ y z, P (opcodeOf 1#2 y z) (Forms.bit y (Operand8.ofOct z)))
    (res : ∀ y z, P (opcodeOf 2#2 y z) (Forms.res y (Operand8.ofOct z)))
    (set : ∀ y z, P (opcodeOf 3#2 y z) (Forms.set y (Operand8.ofOct z))) (cb : Byte) :
    P cb (decodeCb cb) := by
  have hcb := opcodeOf_fields cb
  unfold decodeCb
  generalize fieldX cb = x, Oct.ofBits (fieldY cb) = y, Oct.ofBits (fieldZ cb) = z at hcb ⊢
  subst hcb
  obtain rfl | rfl | rfl | rfl := fieldX_cases x
  exacts [shift y z, bit y z, res y z, set y z]

/-! ## The two tables -/

theorem encode_decodeCb (cb : Byte) : encode (decodeCb cb) = [0xCB#8, cb] := by
  refine decodeCb_cases (P := fun cb i => encode i = [0xCB#8, cb]) ?_ ?_ ?_ ?_ cb
  all_goals
    intro y z
    cases y <;> cases z <;> rfl

theorem decodeCb_tier (cb : Byte) : (decodeCb cb).tier = .G := by
  refine decodeCb_cases (P := fun _ i => i.tier = .G) ?_ ?_ ?_ ?_ cb
  all_goals
    intro y z
    cases y <;> cases z <;> rfl

theorem decodeCb_failureOk (p : Profile) (cb : Byte) : (decodeCb cb).failureOk p = true := by
  refine decodeCb_cases (P := fun _ i => i.failureOk p = true) ?_ ?_ ?_ ?_ cb
  all_goals
    intro y z
    cases y <;> cases z <;> rfl

/-- A 16-bit immediate is encoded low byte first (R96). -/
theorem word_prefix (op b1 b2 : Byte) :
    [op, loByte (joinBytes b2 b1), hiByte (joinBytes b2 b1)] <+: [op, b1, b2] := by
  simp

/-- The named entries are those with a 16-bit immediate. -/
theorem encode_decodeBase (op b1 b2 : Byte) : encode (decodeBase op b1 b2) <+: [op, b1, b2] := by
  refine decodeBase_cases (P := fun op d => encode (d b1 b2) <+: [op, b1, b2]) ?x0 ?x1 ?x2 ?x3 op
  all_goals
    intro y z
    cases y <;> cases z
  case x0.o0.o1 | x0.o1.o0 | x0.o2.o1 | x0.o4.o1 | x0.o6.o1 | x3.o0.o2 | x3.o0.o3 | x3.o0.o4
    | x3.o1.o2 | x3.o1.o4 | x3.o1.o5 | x3.o2.o2 | x3.o2.o4 | x3.o3.o2 | x3.o3.o4 | x3.o5.o2
    | x3.o7.o2 => exact word_prefix ..
  all_goals exact ⟨_, rfl⟩

theorem decodeBase_tier (op b1 b2 : Byte) :
    ((decodeBase op b1 b2).tier == .G) = tierGOpcodes.contains op := by
  refine decodeBase_cases (P := fun op d => ((d b1 b2).tier == .G) = tierGOpcodes.contains op)
    ?_ ?_ ?_ ?_ op
  all_goals
    intro y z
    cases y <;> cases z <;> rfl

/-- The failing fetches of the base table are the holes, which every profile leaves unmapped. Its entry
of `0xCB` is set aside: `decodeInstr` never reads it (R101). -/
theorem decodeBase_failureOk (p : Profile) {op : Byte} (hop : op ≠ 0xCB#8) (b1 b2 : Byte) :
    (decodeBase op b1 b2).failureOk p = true := by
  refine decodeBase_cases (P := fun op d => op ≠ 0xCB#8 → (d b1 b2).failureOk p = true)
    ?x0 ?x1 ?x2 ?x3 op hop
  all_goals
    intro y z h
    cases y <;> cases z
  case x3.o1.o3 => exact absurd rfl h
  all_goals rfl

/-! ## One instruction from its bytes -/

/-- Which table an opcode and a profile read, and what they answer (R101, R103). -/
inductive DecodedBy (p : Profile) (op b1 b2 : Byte) : Instr → Prop
  | cbTable (hop : op = 0xCB#8) (hp : p = .sm83Complete) : DecodedBy p op b1 b2 (decodeCb b1)
  | cbUnmapped (hop : op = 0xCB#8) (hp : p = .sourceNamed) : DecodedBy p op b1 b2 (.prefix_CB b1)
  | tierG (hp : p = .sourceNamed) (hop : tierGOpcodes.contains op = true) :
      DecodedBy p op b1 b2 (.unmapped op)
  | base (hcb : op ≠ 0xCB#8) (hop : p = .sourceNamed → tierGOpcodes.contains op = false) :
      DecodedBy p op b1 b2 (decodeBase op b1 b2)

theorem decodeInstr_decodedBy {p : Profile} {op b1 b2 : Byte} {i : Instr}
    (h : decodeInstr p op b1 b2 = i) : DecodedBy p op b1 b2 i := by
  subst h
  unfold decodeInstr
  split_ifs with hcb hg
  · cases p
    case sm83Complete => exact .cbTable hcb rfl
    case sourceNamed => exact .cbUnmapped hcb rfl
  · exact .tierG hg.1 hg.2
  · exact .base hcb fun hp => by simpa [hp] using hg

theorem decodeInstr_base {p : Profile} {op : Byte} (hcb : op ≠ 0xCB#8)
    (hop : p = .sourceNamed → tierGOpcodes.contains op = false) (b1 b2 : Byte) :
    decodeInstr p op b1 b2 = decodeBase op b1 b2 := by
  have hg : ¬(p = .sourceNamed ∧ tierGOpcodes.contains op = true) := fun ⟨hp, h⟩ =>
    Bool.false_ne_true ((hop hp).symm.trans h)
  unfold decodeInstr
  rw [if_neg hcb, if_neg hg]

theorem unmappedOpcode_iff {p : Profile} {op : Byte} :
    unmappedOpcode p op = true ↔ op ∈ holes ∨ (p = .sourceNamed ∧ op ∈ tierGOpcodes) := by
  simp only [unmappedOpcode, Bool.or_eq_true, Bool.and_eq_true, beq_iff_eq, List.contains_iff_mem]

theorem decodeInstr_unmapped {p : Profile} {op : Byte} (h : unmappedOpcode p op = true)
    (b1 b2 : Byte) : decodeInstr p op b1 b2 = .unmapped op := by
  obtain hop | ⟨hp, hop⟩ := unmappedOpcode_iff.1 h
  · unfold holes at hop
    fin_cases hop <;> cases p <;> rfl
  · have hop : tierGOpcodes.contains op = true := List.contains_iff_mem.2 hop
    have hcb : op ≠ 0xCB#8 := by
      rintro rfl
      cases hop
    unfold decodeInstr
    rw [if_neg hcb, if_pos ⟨hp, hop⟩]

@[simp] theorem wf_unmapped (p : Profile) (op : Byte) :
    (Instr.unmapped op).wf p = unmappedOpcode p op := rfl

@[simp] theorem wf_prefix_CB (p : Profile) (cb : Byte) :
    (Instr.prefix_CB cb).wf p = (p == .sourceNamed) := rfl

theorem wf_complete (i : Instr) : i.wf .sm83Complete = i.failureOk .sm83Complete := by
  simp [Instr.wf, Instr.tierOk]

theorem wf_sourceNamed (i : Instr) :
    i.wf .sourceNamed = true ↔ i.tier ≠ .G ∧ i.failureOk .sourceNamed = true := by
  simp [Instr.wf, Instr.tierOk]

/-- The two constructors that not every profile has as a failing fetch (R103). -/
theorem failureOk_eq_false {p : Profile} {i : Instr} (h : i.failureOk p = false) :
    (∃ op, i = .unmapped op) ∨ ∃ cb, i = .prefix_CB cb := by
  unfold Instr.failureOk at h
  split at h
  next op => exact .inl ⟨op, rfl⟩
  next cb => exact .inr ⟨cb, rfl⟩
  next => exact Bool.noConfusion h

/-- What is decoded encodes to the first of the bytes read. -/
theorem encode_decodeInstr {p : Profile} {op b1 b2 : Byte} {i : Instr}
    (h : decodeInstr p op b1 b2 = i) : encode i <+: [op, b1, b2] := by
  cases decodeInstr_decodedBy h with
  | cbTable hop =>
    rw [encode_decodeCb, hop]
    exact ⟨[b2], rfl⟩
  | cbUnmapped hop =>
    rw [hop]
    exact ⟨[b2], rfl⟩
  | tierG => exact ⟨[b1, b2], rfl⟩
  | base => exact encode_decodeBase op b1 b2

/-- What is decoded under a profile is an instruction of it. -/
theorem wf_decodeInstr {p : Profile} {op b1 b2 : Byte} {i : Instr}
    (h : decodeInstr p op b1 b2 = i) : i.wf p = true := by
  cases decodeInstr_decodedBy h with
  | cbTable _ hp =>
    rw [hp, wf_complete]
    exact decodeCb_failureOk _ b1
  | cbUnmapped _ hp => rw [wf_prefix_CB, hp]; rfl
  | tierG hp hop => rw [wf_unmapped, unmappedOpcode, hp, hop]; exact Bool.or_true _
  | base hcb hop =>
    have hf := decodeBase_failureOk p hcb b1 b2
    cases p
    case sm83Complete => exact (wf_complete _).trans hf
    case sourceNamed =>
      have ht := (decodeBase_tier op b1 b2).trans (hop rfl)
      exact (wf_sourceNamed _).2 ⟨ne_of_beq_false ht, hf⟩

/-- The bytes of a 16-bit immediate give it back (R96). -/
theorem eq_of_word_prefix {x op b1 b2 : Byte} {w : Word}
    (h : [x, loByte w, hiByte w] <+: [op, b1, b2]) : op = x ∧ w = joinBytes b2 b1 := by
  obtain ⟨t, h⟩ := h
  cases h
  exact ⟨rfl, (joinBytes_hiByte_loByte w).symm⟩

/-- Under `sm83_complete`, bytes that begin with the encoding of an instruction decode to it. The named
cases are the failing fetches and the instructions with a 16-bit immediate; each other encoding fixes
the bytes or copies one of them. -/
theorem decodeInstr_of_prefix_complete {i : Instr} {op b1 b2 : Byte}
    (hi : i.wf .sm83Complete = true) (hp : encode i <+: [op, b1, b2]) :
    decodeInstr .sm83Complete op b1 b2 = i := by
  cases i
  case unmapped x =>
    obtain ⟨_, h⟩ := hp
    cases h
    exact decodeInstr_unmapped hi b1 b2
  case prefix_CB cb => cases hi
  case ld_BC_d16 w | ld_ma16_SP w | ld_DE_d16 w | ld_HL_d16 w | ld_SP_d16 w | jp_NZ_a16 w | jp_a16 w
    | call_NZ_a16 w | jp_Z_a16 w | call_Z_a16 w | call_a16 w | jp_NC_a16 w | call_NC_a16 w
    | jp_C_a16 w | call_C_a16 w | ld_ma16_A w | ld_A_ma16 w =>
    obtain ⟨rfl, rfl⟩ := eq_of_word_prefix hp
    rfl
  all_goals
    obtain ⟨_, h⟩ := hp
    cases h
    rfl

/-- `source_named` reads an instruction that is not of Tier G as `sm83_complete` does. -/
theorem decodeInstr_sourceNamed {op b1 b2 : Byte}
    (h : (decodeInstr .sm83Complete op b1 b2).tier ≠ .G) :
    decodeInstr .sourceNamed op b1 b2 = decodeInstr .sm83Complete op b1 b2 := by
  have hcb : op ≠ 0xCB#8 := by
    rintro rfl
    exact h (decodeCb_tier b1)
  rw [decodeInstr_base hcb (p := .sm83Complete) nofun] at h ⊢
  refine decodeInstr_base hcb (fun _ => ?_) b1 b2
  rw [← decodeBase_tier op b1 b2]
  exact beq_false_of_ne h

/-- Bytes that begin with the encoding of an instruction of the profile decode to it. -/
theorem decodeInstr_of_prefix {p : Profile} {i : Instr} {op b1 b2 : Byte} (hi : i.wf p = true)
    (hp : encode i <+: [op, b1, b2]) : decodeInstr p op b1 b2 = i := by
  cases p
  case sm83Complete => exact decodeInstr_of_prefix_complete hi hp
  case sourceNamed =>
    cases hf : i.failureOk .sm83Complete
    case true =>
      have h := decodeInstr_of_prefix_complete ((wf_complete i).trans hf) hp
      have ht : i.tier ≠ .G := ((wf_sourceNamed i).1 hi).1
      rw [decodeInstr_sourceNamed (h.symm ▸ ht), h]
    case false =>
      obtain ⟨x, rfl⟩ | ⟨cb, rfl⟩ := failureOk_eq_false hf
      · obtain ⟨_, h⟩ := hp
        cases h
        exact decodeInstr_unmapped hi b1 b2
      · obtain ⟨_, h⟩ := hp
        cases h
        rfl

/-- Decoding answers exactly the instruction of the profile whose encoding begins the bytes read. -/
theorem decodeInstr_eq_iff {p : Profile} {op b1 b2 : Byte} {i : Instr} :
    decodeInstr p op b1 b2 = i ↔ i.wf p = true ∧ encode i <+: [op, b1, b2] :=
  ⟨fun h => ⟨wf_decodeInstr h, encode_decodeInstr h⟩, fun ⟨hi, hp⟩ => decodeInstr_of_prefix hi hp⟩

/-! ## Decoding a list of bytes -/

/-- An instruction is one to three bytes long (R90). -/
theorem encode_length_bounds (i : Instr) : 1 ≤ (encode i).length ∧ (encode i).length ≤ 3 := by
  cases i <;> exact Laws.EncodingLength.of_list _ rfl rfl rfl

/-- The bytes a decoding of a list reads are the list's own, and zeros after its end. -/
theorem read_prefix (op : Byte) (tl : List Byte) :
    [op, tl.getD 0 0#8, tl.getD 1 0#8] <+: (op :: tl) ++ [0#8, 0#8] := by
  match tl with
  | [] => exact ⟨[], rfl⟩
  | [b1] => exact ⟨[0#8], rfl⟩
  | b1 :: b2 :: tl => exact ⟨tl ++ [0#8, 0#8], rfl⟩

theorem encode_prefix_read_iff {i : Instr} {op : Byte} {tl : List Byte}
    (hl : i.length ≤ (op :: tl).length) :
    encode i <+: [op, tl.getD 0 0#8, tl.getD 1 0#8] ↔ encode i <+: op :: tl :=
  ⟨fun h =>
    List.prefix_of_prefix_length_le (h.trans (read_prefix op tl)) (List.prefix_append _ _) hl,
    fun h => List.prefix_of_prefix_length_le (h.trans (List.prefix_append _ _)) (read_prefix op tl)
      (encode_length_bounds i).2⟩

theorem decode_cons (p : Profile) (op : Byte) (tl : List Byte) :
    decode p (op :: tl) =
      if (op :: tl).length < (decodeInstr p op (tl.getD 0 0#8) (tl.getD 1 0#8)).length then .truncated
      else .instr (decodeInstr p op (tl.getD 0 0#8) (tl.getD 1 0#8))
        ((op :: tl).drop (decodeInstr p op (tl.getD 0 0#8) (tl.getD 1 0#8)).length) := rfl

/-- Decoding undoes encoding, whatever bytes follow. -/
theorem decode_encode_append {p : Profile} {i : Instr} (hi : i.wf p = true) (rest : List Byte) :
    decode p (encode i ++ rest) = .instr i rest := by
  obtain ⟨op, t, he⟩ := List.exists_cons_of_length_pos (encode_length_bounds i).1
  have hb : encode i ++ rest = op :: (t ++ rest) := by rw [he]; rfl
  have hp : encode i <+: op :: (t ++ rest) := ⟨rest, hb⟩
  have hl : i.length ≤ (op :: (t ++ rest)).length := hp.length_le
  have hd := decodeInstr_eq_iff.2 ⟨hi, (encode_prefix_read_iff hl).2 hp⟩
  rw [hb, decode_cons, hd, if_neg (Nat.not_lt.2 hl), ← hb]
  exact congrArg (Decoded.instr i) List.drop_left

/-- Settles O1: the bytes read begin with the encoding (`encode_prefix_read_iff`), so they decode to
the instruction (`decodeInstr_eq_iff`). -/
theorem decodeOfEncodeGivesInstruction : Obligations.DecodeOfEncodeGivesInstruction :=
  fun _ _ rest hi => decode_encode_append hi rest

/-- Settles O2, by `decodeInstr_eq_iff` in the other direction. -/
theorem encodeOfDecodeGivesBytes : Obligations.EncodeOfDecodeGivesBytes := by
  intro p bytes i rest h
  cases bytes with
  | nil => cases h
  | cons op tl =>
    rw [decode_cons] at h
    split_ifs at h with hl
    injection h with hi hrest
    rw [hi] at hl hrest
    obtain ⟨hwf, hread⟩ := decodeInstr_eq_iff.1 hi
    have hp := (encode_prefix_read_iff (Nat.not_lt.1 hl)).1 hread
    rw [← hrest]
    exact ⟨List.prefix_iff_eq_append.1 hp, hwf⟩

/-- Settles O3: each word is the encoding of its instruction. -/
theorem writtenOutWordsDecode : Obligations.WrittenOutWordsDecode := by
  have word (i : Instr) (hi : i.wf .sm83Complete = true) :
      decode .sm83Complete (encode i) = .instr i [] := by
    simpa using decode_encode_append hi []
  exact ⟨word (.ld_A_d8 0x12#8) rfl, word .ld_B_C rfl, word .halt rfl, word .add_A_mHL rfl,
    word (.cp_d8 0x40#8) rfl, word .add_HL_BC rfl, word (.ld_ma16_SP 0xC100#16) rfl,
    word .push_AF rfl, word (.call_NZ_a16 0x0200#16) rfl, word (.jr_e8 0xFE#8) rfl, word .rst_28 rfl,
    word .ld_mHLdec_A rfl, word .swap_A rfl, word .bit_7_H rfl, word .res_0_mHL rfl,
    word .set_7_A rfl, word .ei rfl⟩

/-! ## Lengths -/

/-- A base opcode gives the length whatever bytes follow (R90). -/
theorem decodeBase_length (op b1 b2 c1 c2 : Byte) :
    (decodeBase op b1 b2).length = (decodeBase op c1 c2).length := by
  refine decodeBase_cases (P := fun _ d => (d b1 b2).length = (d c1 c2).length) ?_ ?_ ?_ ?_ op
  all_goals
    intro y z
    cases y <;> cases z <;> exact Nat.eq_of_beq_eq_true rfl

/-- After `0xCB` an instruction has two bytes under either profile (R101). -/
theorem decodeInstr_cb_length (p : Profile) (b1 b2 : Byte) :
    (decodeInstr p 0xCB#8 b1 b2).length = 2 := by
  cases p
  case sm83Complete => exact congrArg List.length (encode_decodeCb b1)
  case sourceNamed => rfl

/-- Settles O4: `0xCB` has two bytes, a Tier G opcode the profile leaves unmapped one, any other the
length of its entry in the base table. -/
theorem firstByteGivesLength : Obligations.FirstByteGivesLength := by
  intro p op b1 b2 c1 c2
  refine ⟨?_, decodeInstr_cb_length p b1 b2⟩
  by_cases hcb : op = 0xCB#8
  · rw [hcb, decodeInstr_cb_length, decodeInstr_cb_length]
  · unfold decodeInstr
    rw [if_neg hcb, if_neg hcb]
    split_ifs
    · rfl
    · exact decodeBase_length op b1 b2 c1 c2

/-! ## The step of a failing fetch -/

@[simp] theorem State.wake_fetch (s : State) : s.wake.fetch = s.fetch := by
  rw [s.wake_eq]
  rfl

@[simp] theorem failureOf_wake (s : State) (i : Instr) : failureOf s.wake i = failureOf s i := by
  rw [s.wake_eq]
  rfl

@[simp] theorem State.promote_fault (b : Bool) (s : State) : (s.promote b).fault = s.fault := by
  rw [s.promote_eq b]

/-- A failed execution promotes nothing (R139). -/
theorem State.promote_of_fault (b : Bool) {s : State} {x : DecodeFailure} (h : s.fault = some x) :
    s.promote b = s :=
  if_neg fun ⟨_, _, hf⟩ => by cases hf.symm.trans h

/-- A failing fetch sets the latch and nothing else (R139). -/
theorem exec_of_failureOf {i : Instr} {s : State} {x : DecodeFailure} (h : failureOf s i = some x) :
    exec i s = .next { s with fault := some x } := by
  unfold failureOf at h
  split at h <;> cases h <;> rfl

/-- Every other instruction leaves the latch as it was. -/
theorem exec_keeps_fault {i : Instr} {s t : State} (hi : failureOf s i = none)
    (h : exec i s = .next t) : t.fault = s.fault := by
  cases exec_executed h with
  | ordinary _ kept => exact kept.fault
  | halts | haltBug | ei | di | reti => rfl
  | unmapped | unmappedStop | unmappedCb => cases hi

/-- The step of a failing fetch leaves the woken state with the latch set (R139, R351). -/
theorem step_of_failing_fetch {s : State} {x : DecodeFailure} (h : s.Fetches)
    (hx : failureOf s s.fetch = some x) : step s = .next { s.wake with fault := some x } := by
  have he := exec_of_failureOf ((failureOf_wake s s.fetch).trans hx)
  rw [step_of_fetches h, State.wake_fetch, he]
  exact congrArg Host.Outcome.next (State.promote_of_fault _ rfl)

/-- The step of any other fetch completes (R353). -/
theorem step_of_mapped_fetch {s : State} (h : s.Fetches) (hn : failureOf s s.fetch = none) :
    ∃ t, step s = .next t ∧ t.fault = none := by
  obtain ⟨u, hu⟩ := exec_completes s.fetch s.wake
  refine ⟨u.promote s.wake.imeScheduled, ?_, ?_⟩
  · rw [step_of_fetches h, State.wake_fetch, hu]
    rfl
  · rw [State.promote_fault, exec_keeps_fault ((failureOf_wake s s.fetch).trans hn) hu,
      State.wake_fault]
    exact h.1

/-- The opcodes at which a fetch fails under a profile (R103). -/
theorem opcode_of_failureOf {p : Profile} {op b1 b2 : Byte} {s : State} {x : DecodeFailure}
    (h : failureOf s (decodeInstr p op b1 b2) = some x) :
    op = 0x10#8 ∨ unmappedOpcode p op = true ∨ (op = 0xCB#8 ∧ p = .sourceNamed) := by
  generalize hi : decodeInstr p op b1 b2 = i at h
  obtain ⟨hwf, _, he⟩ := decodeInstr_eq_iff.1 hi
  unfold failureOf at h
  split at h
  next => cases he; exact .inr (.inl hwf)
  next => cases he; exact .inl rfl
  next => cases he; exact .inr (.inr ⟨rfl, by simpa using hwf⟩)
  next => cases h

/-- The failing fetches of the base table: `0x10` (46_system.md R314) and the opcodes of R103. -/
theorem failureOf_unmappedOpcode {p : Profile} {op : Byte}
    (h : op ∈ 0x10#8 :: holes ∨ (p = .sourceNamed ∧ op ∈ tierGOpcodes)) (b1 b2 : Byte) (s : State) :
    failureOf s (decodeInstr p op b1 b2) =
      some { byte := op, addr := s.pc, wasPrefixed := false } := by
  rw [List.mem_cons, or_assoc, ← unmappedOpcode_iff] at h
  obtain rfl | h := h
  · cases p <;> rfl
  · rw [decodeInstr_unmapped h]
    rfl

/-- Settles O11: in the first two clauses the fetched instruction is a failing fetch; in the third
`opcode_of_failureOf` says that it is none. -/
theorem unmappedOpcodeLatchesFailure : Obligations.UnmappedOpcodeLatchesFailure := by
  intro s h
  refine ⟨fun hop => ?_, fun hcb hp => ?_, fun hop hg => ?_⟩
  · exact step_of_failing_fetch h (failureOf_unmappedOpcode hop _ _ s)
  · apply step_of_failing_fetch h
    rw [State.fetch, hcb, hp]
    rfl
  · have hg (hp : s.cfg.profile = .sourceNamed) : s.memRead s.pc ∉ 0xCB#8 :: tierGOpcodes :=
      fun hm =>
        hg.resolve_left (by simp [hp]) ((show 0xCB#8 :: tierGOpcodes ⊆ _ by decide) hm)
    apply step_of_mapped_fetch h
    rw [Option.eq_none_iff_forall_ne_some]
    intro x hx
    obtain h10 | hu | ⟨hcb, hp⟩ := opcode_of_failureOf hx
    · exact hop (h10 ▸ List.mem_cons_self)
    · obtain hm | ⟨hp, hm⟩ := unmappedOpcode_iff.1 hu
      · exact hop (List.mem_cons_of_mem _ hm)
      · exact hg hp (List.mem_cons_of_mem _ hm)
    · exact hg hp (hcb ▸ List.mem_cons_self)

end Sys2Proof.Machine

/-! The step cycle (40_step_cycle.md R131 to R143): the wake, the fetch cursor, the step that runs the
decoded instruction, and the delayed enable. -/

namespace Sys2Proof.Machine

/-! ## The wake -/

/-- A pending interrupt wakes a halted core, whatever `IME` is (R133). -/
theorem State.wake_of_pending {s : State} (hs : s.halted = true) (hp : s.pending ≠ 0#5) :
    s.wake = { s with halted := false } :=
  if_pos ⟨hs, hp⟩

/-- With nothing pending there is no wake. -/
theorem State.wake_of_not_pending {s : State} (hp : s.pending = 0#5) : s.wake = s :=
  if_neg fun ⟨_, hn⟩ => hn hp

/-- A woken core has nothing left to wake for. -/
@[simp] theorem State.wake_wake (s : State) : s.wake.wake = s.wake := by
  refine if_neg fun ⟨hh, hp⟩ => hp ?_
  rw [State.wake_halted, Bool.and_eq_true, beq_iff_eq] at hh
  exact s.wake_pending.trans hh.2

/-- The wake is the beginning of a step and not a step of its own (R131, R133). -/
theorem step_wake (s : State) : step s.wake = step s := by
  unfold step stepWith
  rw [State.wake_wake, State.wake_fault]

/-- With `IME` 0 nothing is dispatched (R135). -/
theorem State.toDispatch_of_disabled {s : State} (h : s.ime = false) : s.toDispatch = none := by
  unfold State.toDispatch
  rw [h]
  rfl

theorem exists_lowestPending {p : BitVec 5} (h : p ≠ 0#5) : ∃ i, lowestPending p = some i := by
  have h : (lowestPending p).isSome = true := by revert p; decide
  exact Option.isSome_iff_exists.1 h

/-- With `IME` 1 some pending source is dispatched (R135, 60_exceptions.md R357). -/
theorem State.exists_toDispatch {s : State} (h : s.ime = true) (hp : s.pending ≠ 0#5) :
    ∃ i, s.toDispatch = some i := by
  unfold State.toDispatch
  rw [h]
  exact exists_lowestPending hp

/-- Settles O6: with nothing pending the wake leaves the core halted, and the step is the idle one. -/
theorem haltedCoreIdles : Obligations.HaltedCoreIdles := by
  intro s hf hs hp
  have hw : s.wake = s := State.wake_of_not_pending hp
  have hh : s.wake.halted = true := hw.symm ▸ hs
  exact ⟨(step_of_idle hf hh).trans (congrArg Host.Outcome.next hw), stepAccesses_of_idle hf hh⟩

/-- Settles O7: the step of a state is that of its woken state (`step_wake`), and `IME` decides between
the fetch and the dispatch. -/
theorem wakeDoesNotConsumeStep : Obligations.WakeDoesNotConsumeStep := by
  intro s hf hs hp
  have hw := State.wake_of_pending hs hp
  have hh : s.wake.halted = false := by rw [hw]
  refine ⟨hw, ?_, fun hime => ?_, fun hime => ?_⟩
  · rw [← hw, step_wake]
  · have hfetch : s.Fetches := ⟨hf, hh, State.toDispatch_of_disabled (s.wake_ime.trans hime)⟩
    refine ⟨hfetch, ?_⟩
    rw [step_of_fetches hfetch, State.wake_imeScheduled, ← hw]
  · obtain ⟨i, hi⟩ := State.exists_toDispatch (s.wake_ime.trans hime) (s.wake_pending ▸ hp)
    exact ⟨i, hw ▸ step_of_dispatch hf hh hi⟩

/-! ## The fetch cursor -/

theorem State.cursor_of_no_haltBug {s : State} (h : s.haltBug = false) : s.cursor = s.pc + 1#16 := by
  unfold State.cursor
  rw [h]
  rfl

theorem State.cursor_of_haltBug {s : State} (h : s.haltBug = true) : s.cursor = s.pc := if_pos h

/-- The value of `next` without the halt bug (R143). -/
theorem State.next_of_no_haltBug {s : State} (h : s.haltBug = false) {n : Nat} (hn : 1 ≤ n) :
    s.next n = s.pc + BitVec.ofNat 16 n := by
  unfold State.next
  rw [State.cursor_of_no_haltBug h, BitVec.add_assoc, ← BitVec.ofNat_add, Nat.add_sub_cancel' hn]

/-- The value of `next` under the halt bug (R143, R292). -/
theorem State.next_of_haltBug {s : State} (h : s.haltBug = true) (n : Nat) :
    s.next n = s.pc + BitVec.ofNat 16 (n - 1) := by
  unfold State.next
  rw [State.cursor_of_haltBug h]

theorem State.fetch_of_no_haltBug {s : State} (h : s.haltBug = false) :
    s.fetch = decodeInstr s.cfg.profile (s.memRead s.pc) (s.memRead (s.pc + 1#16))
      (s.memRead (s.pc + 2#16)) := by
  unfold State.fetch
  rw [State.cursor_of_no_haltBug h, BitVec.add_assoc]
  rfl

/-- Under the halt bug the opcode byte is read a second time (R136). -/
theorem State.fetch_of_haltBug {s : State} (h : s.haltBug = true) :
    s.fetch = decodeInstr s.cfg.profile (s.memRead s.pc) (s.memRead s.pc)
      (s.memRead (s.pc + 1#16)) := by
  unfold State.fetch
  rw [State.cursor_of_haltBug h]

/-- Settles O10: the halt bug decides where the cursor stands, and with the cursor at `PC` the byte
after `0xCB` is `0xCB` again. -/
theorem haltBugRereadsOpcodeByte : Obligations.HaltBugRereadsOpcodeByte := by
  intro s
  refine ⟨fun h => ⟨State.fetch_of_no_haltBug h, fun n hn => State.next_of_no_haltBug h hn⟩,
    fun h => ⟨State.fetch_of_haltBug h, fun n _ => State.next_of_haltBug h n, fun hcb hp => ?_,
      fun hcb hp => ?_⟩,
    fun n => ⟨rfl, rfl⟩⟩
  · rw [State.fetch_of_haltBug h, hcb, hp]
    rfl
  · rw [State.fetch_of_haltBug h, hcb, hp]
    rfl

/-! ## The step that runs the decoded instruction -/

/-- What decodes from three bytes is what `decodeInstr` reads from them. -/
theorem decodeInstr_of_decode {p : Profile} {op b1 b2 : Byte} {i : Instr} {rest : List Byte}
    (h : decode p [op, b1, b2] = .instr i rest) : decodeInstr p op b1 b2 = i := by
  rw [decode_cons] at h
  split_ifs at h
  injection h

/-- Settles O5: the instruction that decodes is the fetched one. -/
theorem stepRunsDecodedInstruction : Obligations.StepRunsDecodedInstruction := by
  intro s i rest hfetch hd
  have hi : s.fetch = i := decodeInstr_of_decode hd
  refine ⟨wf_decodeInstr hi, ?_⟩
  rw [step_of_fetches hfetch, State.wake_imeScheduled, State.wake_fetch, hi]

/-- Settles O14: each of the three constructors has its failure by `failureOf`. -/
theorem failingFetchSetsLatchAlone : Obligations.FailingFetchSetsLatchAlone := fun _ _ =>
  ⟨exec_of_failureOf rfl, exec_of_failureOf rfl, exec_of_failureOf rfl⟩

/-! ## The delayed enable -/

/-- A schedule set before the step and still set after the execution is promoted (R141). -/
theorem State.promote_of_scheduled {s : State} (h : s.imeScheduled = true) (hf : s.fault = none) :
    s.promote true = { s with ime := true, imeScheduled := false } :=
  if_pos ⟨rfl, h, hf⟩

/-- Nothing is promoted if the schedule was not set before the step or is not set after the
execution. -/
theorem State.promote_of_not_scheduled {b : Bool} {s : State}
    (h : b = false ∨ s.imeScheduled = false) : s.promote b = s := by
  refine if_neg fun ⟨hb, hs, _⟩ => ?_
  simp [hb, hs] at h

/-- A fetching step is the execution followed by the delayed enable (R131). -/
theorem step_of_fetches_next {s u : State} (h : s.Fetches)
    (hu : exec s.wake.fetch s.wake = .next u) : step s = .next (u.promote s.imeScheduled) := by
  rw [step_of_fetches h, hu, State.wake_imeScheduled]
  rfl

/-- Only `DI` cancels a schedule (46_system.md R313). -/
theorem exec_keeps_schedule {i : Instr} {s t : State} (h : exec i s = .next t) (hi : i ≠ .di)
    (hs : s.imeScheduled = true) : t.imeScheduled = true := by
  cases exec_executed h with
  | ordinary _ kept => exact kept.imeScheduled.trans hs
  | ei => rfl
  | di => exact absurd rfl hi
  | halts | haltBug | reti | unmapped | unmappedStop | unmappedCb => exact hs

/-- Settles O9: the delayed enable promotes exactly a schedule that the execution left set, and every
instruction but `DI` leaves it set (`exec_keeps_schedule`). -/
theorem delayedEnable : Obligations.DelayedEnable := by
  intro s u hfetch hu hf
  have hstep := step_of_fetches_next hfetch hu
  have promoted (hs : s.imeScheduled = true) (hsu : u.imeScheduled = true) :
      step s = .next { u with ime := true, imeScheduled := false } := by
    rw [hstep, hs, State.promote_of_scheduled hsu hf]
  refine ⟨promoted, fun hn => ?_, fun hei _ => ?_, fun hdi => ?_, fun hdi hs => ?_⟩
  · rw [hstep, State.promote_of_not_scheduled hn]
  · rw [hei] at hu
    cases hu
    exact ⟨s.wake_ime, rfl⟩
  · rw [hdi] at hu
    cases hu
    exact ⟨rfl, rfl⟩
  · exact promoted hs (exec_keeps_schedule hu hdi (s.wake_imeScheduled.trans hs))

end Sys2Proof.Machine

/-! The 8-bit ALU instructions (41_alu8.md): the number each byte computation stands for, then the end
of an instruction by what it writes, then each instruction by its family. -/

namespace Sys2Proof.Machine

/-! ## Bytes by their numbers -/

/-- A result is 0 when its number is 0 mod 256. -/
theorem ofNat_beq_zero (n : Nat) : (BitVec.ofNat 8 n == 0#8) = decide (n % 256 = 0) := by
  rw [beq_eq_decide, decide_eq_decide, ← BitVec.toNat_inj, BitVec.toNat_ofNat]
  rfl

theorem add_ofNat (a : Byte) (n : Nat) :
    a + BitVec.ofNat 8 n = BitVec.ofNat 8 (a.toNat + n) := by
  rw [BitVec.ofNat_add, BitVec.ofNat_toNat, BitVec.setWidth_eq]

/-- A difference mod 256, with as many times 256 added as keep the number from going below 0. -/
theorem sub_ofNat (a : Byte) {n : Nat} (k : Nat) (h : n ≤ 256 * k) :
    a - BitVec.ofNat 8 n = BitVec.ofNat 8 (a.toNat + 256 * k - n) := by
  apply BitVec.eq_of_toNat_eq
  rw [BitVec.toNat_sub, BitVec.toNat_ofNat, BitVec.toNat_ofNat]
  omega

theorem not_ofNat (a : Byte) : ~~~a = BitVec.ofNat 8 (0xFF - a.toNat) := by
  apply BitVec.eq_of_toNat_eq
  rw [BitVec.toNat_not, BitVec.toNat_ofNat]
  omega

theorem bitByte_ofNat (b : Bool) : bitByte b = BitVec.ofNat 8 b.toNat := by
  cases b <;> rfl

/-! ## The ALU functions by their numbers -/

theorem add8_eq (a v : Byte) :
    add8 a v =
      { res := BitVec.ofNat 8 (a.toNat + v.toNat)
        z := decide ((a.toNat + v.toNat) % 256 = 0), n := false
        h := decide (a.toNat % 16 + v.toNat % 16 > 0xF)
        c := decide (a.toNat + v.toNat > 0xFF) } := by
  rw [add8, ofNat_beq_zero]

theorem adc8_eq (a v : Byte) (cin : Bool) :
    adc8 a v cin =
      { res := BitVec.ofNat 8 (a.toNat + v.toNat + cin.toNat)
        z := decide ((a.toNat + v.toNat + cin.toNat) % 256 = 0), n := false
        h := decide (a.toNat % 16 + v.toNat % 16 + cin.toNat > 0xF)
        c := decide (a.toNat + v.toNat + cin.toNat > 0xFF) } := by
  rw [adc8, ofNat_beq_zero]

theorem sub8_eq (a v : Byte) :
    sub8 a v =
      { res := BitVec.ofNat 8 (a.toNat + 256 - v.toNat)
        z := decide ((a.toNat + 256 - v.toNat) % 256 = 0), n := true
        h := decide (a.toNat % 16 < v.toNat % 16)
        c := decide (a.toNat < v.toNat) } := by
  have hres : a - v = BitVec.ofNat 8 (a.toNat + 256 - v.toNat) := by
    simpa using sub_ofNat a 1 v.isLt.le
  rw [sub8, hres, ofNat_beq_zero]

theorem sbc8_eq (a v : Byte) (cin : Bool) :
    sbc8 a v cin =
      { res := BitVec.ofNat 8 (a.toNat + 512 - (v.toNat + cin.toNat))
        z := decide ((a.toNat + 512 - (v.toNat + cin.toNat)) % 256 = 0), n := true
        h := decide (a.toNat % 16 < v.toNat % 16 + cin.toNat)
        c := decide (a.toNat < v.toNat + cin.toNat) } := by
  have hle : v.toNat + cin.toNat ≤ 256 * 2 := by have := cin.toNat_le; omega
  have hres : a - v - bitByte cin = BitVec.ofNat 8 (a.toNat + 512 - (v.toNat + cin.toNat)) := by
    rw [BitVec.sub_sub, bitByte_ofNat, add_ofNat, sub_ofNat a 2 hle]
  rw [sbc8, ← bitByte, hres, ofNat_beq_zero]

theorem inc8_eq (v : Byte) (c : Bool) :
    inc8 v c =
      { res := BitVec.ofNat 8 (v.toNat + 1), z := decide ((v.toNat + 1) % 256 = 0), n := false
        h := decide (v.toNat % 16 = 0xF), c := c } := by
  have hhalf : v.toNat % 16 + 1 > 0xF ↔ v.toNat % 16 = 0xF := by omega
  rw [inc8, add_ofNat, ofNat_beq_zero, decide_eq_decide.2 hhalf]

theorem dec8_eq (v : Byte) (c : Bool) :
    dec8 v c =
      { res := BitVec.ofNat 8 (v.toNat + 255), z := decide ((v.toNat + 255) % 256 = 0), n := true
        h := decide (v.toNat % 16 = 0), c := c } := by
  rw [dec8, sub_ofNat v 1 (by decide), ofNat_beq_zero]
  rfl

/-! ## `DAA` by its numbers -/

/-- What `DAA` adds after an addition: both tests look at the original `a` (R198). -/
def daaAdded (a : Byte) (h c : Bool) : Nat :=
  (if h = true ∨ a.toNat % 16 > 9 then 0x06 else 0) +
    (if c = true ∨ a.toNat > 0x99 then 0x60 else 0)

/-- What `DAA` subtracts after a subtraction: the tests look at the flags alone (R198). -/
def daaSubtracted (h c : Bool) : Nat := (if h = true then 0x06 else 0) + (if c = true then 0x60 else 0)

theorem daaAdjust_of_add (a : Byte) (h c : Bool) :
    daaAdjust a false h c = BitVec.ofNat 8 (daaAdded a h c) := by
  rw [daaAdjust, daaAdded, if_neg Bool.false_ne_true]
  split_ifs <;> rfl

theorem daaAdjust_of_sub (a : Byte) (h c : Bool) :
    daaAdjust a true h c = BitVec.ofNat 8 (daaSubtracted h c) := by
  cases h <;> cases c <;> rfl

theorem daaSubtracted_le (h c : Bool) : daaSubtracted h c ≤ 256 * 1 := by
  cases h <;> cases c <;> decide

theorem daa8_of_add (a : Byte) (h c : Bool) :
    daa8 a false h c =
      { res := BitVec.ofNat 8 (a.toNat + daaAdded a h c)
        z := decide ((a.toNat + daaAdded a h c) % 256 = 0), n := false
        h := false, c := decide (c = true ∨ a.toNat > 0x99) } := by
  have hcarry : (c || decide (a.toNat > 0x99)) = decide (c = true ∨ a.toNat > 0x99) := by
    rw [Bool.decide_or, Bool.decide_eq_true]
  rw [daa8, daaAdjust_of_add, if_neg Bool.false_ne_true, if_neg Bool.false_ne_true, add_ofNat,
    ofNat_beq_zero, hcarry]

theorem daa8_of_sub (a : Byte) (h c : Bool) :
    daa8 a true h c =
      { res := BitVec.ofNat 8 (a.toNat + 256 - daaSubtracted h c)
        z := decide ((a.toNat + 256 - daaSubtracted h c) % 256 = 0), n := true
        h := false, c := c } := by
  rw [daa8, daaAdjust_of_sub, if_pos rfl, if_pos rfl, sub_ofNat a 1 (daaSubtracted_le h c),
    ofNat_beq_zero]

/-! ## Rotates by their numbers -/

theorem getLsbD_seven (v : Byte) : v.getLsbD 7 = decide (v.toNat ≥ 128) := by
  rw [← BitVec.testBit_toNat, Nat.testBit_eq_decide_div_mod_eq, decide_eq_decide]
  omega

theorem getLsbD_zero (v : Byte) : v.getLsbD 0 = decide (v.toNat % 2 = 1) := by
  rw [← BitVec.testBit_toNat, Nat.testBit_zero]

theorem toNat_getLsbD_seven (v : Byte) : (v.getLsbD 7).toNat = v.toNat / 128 := by
  rw [← BitVec.testBit_toNat, Nat.toNat_testBit]
  omega

theorem toNat_getLsbD_zero (v : Byte) : (v.getLsbD 0).toNat = v.toNat % 2 := by
  rw [← BitVec.testBit_toNat, Nat.toNat_testBit, pow_zero, Nat.div_one]

/-- A shift to the left with `b` coming in at bit 0, which the shift leaves free. -/
theorem shiftLeft_or_bitByte (v : Byte) (b : Bool) :
    v <<< 1 ||| bitByte b = BitVec.ofNat 8 (2 * v.toNat + b.toNat) := by
  have hfree : 2 ^ 1 * v.toNat + b.toNat = 2 ^ 1 * v.toNat ||| b.toNat :=
    Nat.two_pow_add_eq_or_of_lt b.toNat_lt _
  calc v <<< 1 ||| bitByte b
    _ = BitVec.ofNat 8 (2 ^ 1 * v.toNat) ||| BitVec.ofNat 8 b.toNat := by
      have hshift : v <<< 1 = BitVec.ofNat 8 (2 ^ 1 * v.toNat) := by
        apply BitVec.eq_of_toNat_eq
        rw [BitVec.toNat_shiftLeft, BitVec.toNat_ofNat, Nat.shiftLeft_eq, Nat.mul_comm]
      rw [hshift, bitByte_ofNat]
    _ = BitVec.ofNat 8 (2 * v.toNat + b.toNat) := by rw [← BitVec.ofNat_or, ← hfree, pow_one]

/-- A shift to the right with `b` coming in at bit 7, which the shift leaves free. -/
theorem shiftRight_or_bitByte (v : Byte) (b : Bool) :
    v >>> 1 ||| bitByte b <<< 7 = BitVec.ofNat 8 (v.toNat / 2 + 128 * b.toNat) := by
  have hlow : v.toNat / 2 < 2 ^ 7 := by omega
  have hfree : 2 ^ 7 * b.toNat + v.toNat / 2 = 2 ^ 7 * b.toNat ||| v.toNat / 2 :=
    Nat.two_pow_add_eq_or_of_lt hlow _
  calc v >>> 1 ||| bitByte b <<< 7
    _ = BitVec.ofNat 8 (2 ^ 7 * b.toNat) ||| BitVec.ofNat 8 (v.toNat / 2) := by
      have hshift : v >>> 1 = BitVec.ofNat 8 (v.toNat / 2) := by
        apply BitVec.eq_of_toNat_eq
        rw [BitVec.toNat_ushiftRight, BitVec.toNat_ofNat, Nat.shiftRight_one]
        omega
      have hbit : bitByte b <<< 7 = BitVec.ofNat 8 (2 ^ 7 * b.toNat) := by cases b <;> rfl
      rw [BitVec.or_comm, hshift, hbit]
    _ = BitVec.ofNat 8 (v.toNat / 2 + 128 * b.toNat) := by
      rw [← BitVec.ofNat_or, ← hfree, Nat.add_comm]
      rfl

/-! ## The end of an instruction -/

theorem advance_setFlags (s : State) (n : Nat) (z nf hf cf : Bool) :
    (s.advance n).setFlags z nf hf cf = afterFlags s n z nf hf cf := by
  rw [State.setFlags_eq]
  rfl

theorem advance_setA_setFlags (s : State) (n : Nat) (v : Byte) (z nf hf cf : Bool) :
    { s.advance n with a := v }.setFlags z nf hf cf = afterA s n v z nf hf cf := by
  rw [State.setFlags_eq]
  rfl

/-- A register and the flags written. -/
theorem advance_setReg_setFlags (s : State) (n : Nat) (r : Reg8) (v : Byte) (z nf hf cf : Bool) :
    ((s.advance n).setOperand (.reg r) v).setFlags z nf hf cf =
      afterFlags (s.setReg r v) n z nf hf cf := by
  rw [State.setFlags_eq]
  cases r <;> rfl

/-- The byte at `HL` and the flags written: the registers and the control bits. -/
theorem advance_setMHL_setFlags_same (s : State) (n : Nat) (v : Byte) (z nf hf cf : Bool) :
    SameButBus (afterFlags s n z nf hf cf)
      (((s.advance n).setOperand .mHL v).setFlags z nf hf cf) := by
  rw [State.setFlags_eq, State.setOperand_mHL, State.memWrite_same]
  rfl

/-- The byte at `HL` and the flags written: what the bus reads. -/
theorem advance_setMHL_setFlags_stored (s : State) (n : Nat) (v : Byte) (z nf hf cf : Bool) :
    StoredByte s (((s.advance n).setOperand .mHL v).setFlags z nf hf cf) s.hl v := by
  have hread (y : Word) : (((s.advance n).setOperand .mHL v).setFlags z nf hf cf).memRead y =
      (s.memWrite s.hl v).memRead y :=
    (State.setFlags_memRead ..).trans (s.advance_setOperand_memRead n .mHL v y)
  exact ⟨(hread _).trans (s.memRead_memWrite_same s.hl v),
    fun y hy => (hread y).trans (s.memRead_memWrite_other s.hl y v hy)⟩

/-! ## The families -/

/-- The value of the ALU field (30_encoding.md R95). -/
def aluCode : AluOp → Nat
  | .add => 0 | .adc => 1 | .sub => 2 | .sbc => 3 | .and => 4 | .xor => 5 | .or => 6 | .cp => 7

theorem encode_alu (op : AluOp) (r : Operand8) :
    encode (Forms.alu op r) = [opByte (0x80 + 8 * aluCode op + operandCode r)] := by
  obtain r | _ := r
  · cases op <;> cases r <;> rfl
  · cases op <;> rfl

theorem encode_aluImm (op : AluOp) (d8 : Byte) :
    encode (Forms.aluImm op d8) = [opByte (0xC6 + 8 * aluCode op), d8] := by
  cases op <;> rfl

theorem exec_alu (op : AluOp) (r : Operand8) (s : State) :
    exec (Forms.alu op r) s = .next (aluOperand op r s) := by
  obtain r | _ := r
  · cases op <;> cases r <;> rfl
  · cases op <;> rfl

theorem exec_aluImm (op : AluOp) (d8 : Byte) (s : State) :
    exec (Forms.aluImm op d8) s = .next (aluImmediate op d8 s) := by
  cases op <;> rfl

theorem encode_inc (r : Operand8) :
    encode (Forms.inc r) = [opByte (0x04 + 8 * operandCode r)] := by
  obtain r | _ := r
  · cases r <;> rfl
  · rfl

theorem encode_dec (r : Operand8) :
    encode (Forms.dec r) = [opByte (0x05 + 8 * operandCode r)] := by
  obtain r | _ := r
  · cases r <;> rfl
  · rfl

theorem exec_inc (r : Operand8) (s : State) :
    exec (Forms.inc r) s = .next (incOperand r s) := by
  obtain r | _ := r
  · cases r <;> rfl
  · rfl

theorem exec_dec (r : Operand8) (s : State) :
    exec (Forms.dec r) s = .next (decOperand r s) := by
  obtain r | _ := r
  · cases r <;> rfl
  · rfl

/-- Every ALU operation but `CP` writes `A` and the flags (R170 to R190). -/
theorem exec_alu_afterA (op : AluOp) (hop : op ≠ .cp) (r : Operand8) (s : State) :
    exec (Forms.alu op r) s =
      let o := alu8 op s.a (s.operand r) s.flagC
      .next (afterA s 1 o.res o.z o.n o.h o.c) := by
  rw [exec_alu, aluOperand_eq, if_neg hop]
  rfl

theorem exec_aluImm_afterA (op : AluOp) (hop : op ≠ .cp) (d8 : Byte) (s : State) :
    exec (Forms.aluImm op d8) s =
      let o := alu8 op s.a d8 s.flagC
      .next (afterA s 2 o.res o.z o.n o.h o.c) := by
  rw [exec_aluImm, aluImmediate_eq, if_neg hop]
  rfl

/-- `CP` writes the flags alone (R191 to R193). -/
theorem exec_cp_afterFlags (r : Operand8) (s : State) :
    exec (Forms.alu .cp r) s =
      let o := sub8 s.a (s.operand r)
      .next (afterFlags s 1 o.z o.n o.h o.c) := by
  rw [exec_alu, aluOperand_eq, if_pos rfl]
  rfl

theorem exec_cpImm_afterFlags (d8 : Byte) (s : State) :
    exec (Forms.aluImm .cp d8) s =
      let o := sub8 s.a d8
      .next (afterFlags s 2 o.z o.n o.h o.c) := by
  rw [exec_aluImm, aluImmediate_eq, if_pos rfl]
  rfl

theorem exec_daa_afterA (s : State) :
    exec .daa s =
      let o := daa8 s.a s.flagN s.flagH s.flagC
      .next (afterA s 1 o.res o.z o.n o.h o.c) :=
  congrArg Host.Outcome.next (advance_setA_setFlags ..)

/-! ## Arithmetic and logic on `A` -/

/-- Settles O28, by the number `add8` computes. -/
theorem addToAccumulator : Obligations.AddToAccumulator := by
  refine ⟨fun r s => ⟨encode_alu .add r, ?_⟩, fun d8 s => ⟨encode_aluImm .add d8, ?_⟩⟩
  · rw [exec_alu_afterA .add nofun, alu8, add8_eq]
  · rw [exec_aluImm_afterA .add nofun, alu8, add8_eq]

/-- Settles O29, by the number `adc8` computes. -/
theorem addWithCarryToAccumulator : Obligations.AddWithCarryToAccumulator := by
  refine ⟨fun r s => ⟨encode_alu .adc r, ?_⟩, fun d8 s => ⟨encode_aluImm .adc d8, ?_⟩⟩
  · rw [exec_alu_afterA .adc nofun, alu8, adc8_eq]
  · rw [exec_aluImm_afterA .adc nofun, alu8, adc8_eq]

/-- Settles O30, by the number `sub8` computes. -/
theorem subtractFromAccumulator : Obligations.SubtractFromAccumulator := by
  refine ⟨fun r s => ⟨encode_alu .sub r, ?_⟩, fun d8 s => ⟨encode_aluImm .sub d8, ?_⟩⟩
  · rw [exec_alu_afterA .sub nofun, alu8, sub8_eq]
  · rw [exec_aluImm_afterA .sub nofun, alu8, sub8_eq]

/-- Settles O31, by the number `sbc8` computes. -/
theorem subtractWithCarryFromAccumulator : Obligations.SubtractWithCarryFromAccumulator := by
  refine ⟨fun r s => ⟨encode_alu .sbc r, ?_⟩, fun d8 s => ⟨encode_aluImm .sbc d8, ?_⟩⟩
  · rw [exec_alu_afterA .sbc nofun, alu8, sbc8_eq]
  · rw [exec_aluImm_afterA .sbc nofun, alu8, sbc8_eq]

/-- Settles O32: the flags are those of `sub8`, and `A` is not among what `CP` writes. -/
theorem compareWithAccumulator : Obligations.CompareWithAccumulator := by
  refine ⟨fun r s => ⟨encode_alu .cp r, ?_⟩, fun d8 s => ⟨encode_aluImm .cp d8, ?_⟩⟩
  · rw [exec_cp_afterFlags, sub8_eq]
  · rw [exec_cpImm_afterFlags, sub8_eq]

/-- Settles O33: the three operations and their flags are those of the model's `and8`, `xor8` and
`or8`. -/
theorem logicWithAccumulator : Obligations.LogicWithAccumulator :=
  ⟨fun r s => ⟨encode_alu .and r, exec_alu_afterA .and nofun r s⟩,
    fun d8 s => ⟨encode_aluImm .and d8, exec_aluImm_afterA .and nofun d8 s⟩,
    fun r s => ⟨encode_alu .xor r, exec_alu_afterA .xor nofun r s⟩,
    fun d8 s => ⟨encode_aluImm .xor d8, exec_aluImm_afterA .xor nofun d8 s⟩,
    fun r s => ⟨encode_alu .or r, exec_alu_afterA .or nofun r s⟩,
    fun d8 s => ⟨encode_aluImm .or d8, exec_aluImm_afterA .or nofun d8 s⟩⟩

/-! ## `INC` and `DEC` -/

/-- Settles O34: `inc8` and `dec8` give the byte and the flags, and `advance_setReg_setFlags` and the
two lemmas on the byte at `HL` say what is written. -/
theorem incrementAndDecrementOperand : Obligations.IncrementAndDecrementOperand := by
  refine ⟨fun r s => ⟨encode_inc (.reg r), ?_⟩,
    fun s => ⟨rfl, incOperand .mHL s, exec_inc .mHL s, ?_, ?_, ?_⟩,
    fun r s => ⟨encode_dec (.reg r), ?_⟩,
    fun s => ⟨rfl, decOperand .mHL s, exec_dec .mHL s, ?_, ?_, ?_⟩⟩
  · rw [exec_inc, incOperand, inc8_eq]
    exact congrArg Host.Outcome.next (advance_setReg_setFlags ..)
  · rw [incOperand, inc8_eq]
    exact advance_setMHL_setFlags_same ..
  · rw [incOperand, inc8_eq]
    exact advance_setMHL_setFlags_stored ..
  · rw [dataAccesses, inc8_eq, updates]
  · rw [exec_dec, decOperand, dec8_eq]
    exact congrArg Host.Outcome.next (advance_setReg_setFlags ..)
  · rw [decOperand, dec8_eq]
    exact advance_setMHL_setFlags_same ..
  · rw [decOperand, dec8_eq]
    exact advance_setMHL_setFlags_stored ..
  · rw [dataAccesses, dec8_eq, updates]

/-! ## The accumulator and the flags -/

/-- Settles O35: `N` decides between the additive and the subtractive correction. -/
theorem decimalAdjust : Obligations.DecimalAdjust := by
  refine fun s => ⟨rfl, fun hn => ?_, fun hn => ?_⟩
  · rw [exec_daa_afterA, hn, daa8_of_add]
    rfl
  · rw [exec_daa_afterA, hn, daa8_of_sub]
    rfl

/-- The accumulator rotates leave `A`, the carry, and no other flag. -/
theorem rotateA_afterA (op : ShiftOp) (s : State) :
    rotateA op s =
      afterA s 1 (shiftRes op s.a s.flagC) false false false (shiftCarry op s.a) :=
  rotateA_eq op s

/-- Settles O37: each rotate is a shift by one with a bit coming in at the free end. -/
theorem accumulatorRotates : Obligations.AccumulatorRotates := by
  refine fun s => ⟨rfl, rfl, rfl, rfl, ?rlca, ?rla, ?rrca, ?rra⟩
  case rlca =>
    rw [← toNat_getLsbD_seven, ← shiftLeft_or_bitByte, ← getLsbD_seven]
    exact congrArg Host.Outcome.next (rotateA_afterA .rlc s)
  case rla =>
    rw [← shiftLeft_or_bitByte, ← getLsbD_seven]
    exact congrArg Host.Outcome.next (rotateA_afterA .rl s)
  case rrca =>
    rw [← getLsbD_zero, ← toNat_getLsbD_zero, ← shiftRight_or_bitByte]
    exact congrArg Host.Outcome.next (rotateA_afterA .rrc s)
  case rra =>
    rw [← shiftRight_or_bitByte, ← getLsbD_zero]
    exact congrArg Host.Outcome.next (rotateA_afterA .rr s)

/-- Settles O36: `CPL` writes `A` and the flags, `SCF` and `CCF` the flags alone. -/
theorem complementAndCarryFlag : Obligations.ComplementAndCarryFlag := by
  refine fun s => ⟨rfl, rfl, rfl, ?cpl, ?scf, ?ccf⟩
  case cpl =>
    rw [← not_ofNat]
    exact congrArg Host.Outcome.next (advance_setA_setFlags ..)
  case scf => exact congrArg Host.Outcome.next (advance_setFlags ..)
  case ccf => exact congrArg Host.Outcome.next (advance_setFlags ..)

end Sys2Proof.Machine

/-! The 16-bit arithmetic (42_alu16.md) and `LD HL,SP+e8` (44_load16_stack.md): a word by its number
and by its two bytes, then the end of an instruction that writes a pair, then each instruction. -/

namespace Sys2Proof.Machine

/-! ## Words by their numbers -/

theorem hiByte_ofNat (n : Nat) :
    hiByte (BitVec.ofNat 16 n) = BitVec.ofNat 8 (n % 65536 / 256) := rfl

theorem loByte_ofNat (n : Nat) : loByte (BitVec.ofNat 16 n) = BitVec.ofNat 8 (n % 256) := by
  apply BitVec.eq_of_toNat_eq
  simp only [loByte, BitVec.toNat_ofNat]
  omega

/-- The formula of 00_scope.md R7 is the sign extension: the top bit decides between its cases. -/
theorem sext16_eq_signExtend (b : Byte) : sext16 b = b.signExtend 16 := by
  apply BitVec.eq_of_toNat_eq
  rw [sext16, BitVec.toNat_signExtend, BitVec.toNat_setWidth_of_le (by decide),
    BitVec.msb_eq_decide]
  obtain hb | hb := Nat.lt_or_ge b.toNat 128
  · rw [if_pos hb, decide_eq_false hb.not_ge, BitVec.toNat_ofNat]
    exact Nat.mod_eq_of_lt (by omega)
  · rw [if_neg hb.not_gt, decide_eq_true hb, BitVec.toNat_ofNat]
    exact Nat.mod_eq_of_lt (by omega)

theorem spOffset_ofNat (sp : Word) (e : Byte) :
    spOffset sp e = BitVec.ofNat 16 (sp.toNat + (sext16 e).toNat) := by
  rw [spOffset, ← sext16_eq_signExtend, BitVec.add_def]

/-! ## The end of an instruction that writes a pair -/

@[simp] theorem State.setPair_pair_same (s : State) (p : Pair16) (v : Word) :
    (s.setPair p v).pair p = v := by
  cases p with
  | bc | de | hl => exact joinBytes_hiByte_loByte v
  | sp => rfl

theorem advance_setPair (s : State) (n : Nat) (p : Pair16) (v : Word) :
    (s.advance n).setPair p v = afterNext (s.setPair p v) n := by
  cases p <;> rfl

/-- A pair and the flags written. -/
theorem advance_setPair_setFlags (s : State) (n : Nat) (p : Pair16) (v : Word)
    (z nf hf cf : Bool) :
    ((s.advance n).setPair p v).setFlags z nf hf cf = afterFlags (s.setPair p v) n z nf hf cf := by
  rw [State.setFlags_eq, advance_setPair]
  rfl

/-! ## The families -/

theorem encode_addHL (p : Pair16) :
    encode (Forms.addHL p) = [opByte (0x09 + 16 * pairCode p)] := by
  cases p <;> rfl

theorem encode_incPair (p : Pair16) :
    encode (Forms.incPair p) = [opByte (0x03 + 16 * pairCode p)] := by
  cases p <;> rfl

theorem encode_decPair (p : Pair16) :
    encode (Forms.decPair p) = [opByte (0x0B + 16 * pairCode p)] := by
  cases p <;> rfl

theorem exec_addHL (p : Pair16) (s : State) :
    exec (Forms.addHL p) s = .next (addHLPair p s) := by
  cases p <;> rfl

theorem exec_incPair (p : Pair16) (s : State) :
    exec (Forms.incPair p) s = .next (incPair p s) := by
  cases p <;> rfl

theorem exec_decPair (p : Pair16) (s : State) :
    exec (Forms.decPair p) s = .next (decPair p s) := by
  cases p <;> rfl

theorem incPair_pair (p : Pair16) (s : State) : (incPair p s).pair p = s.pair p + 1#16 :=
  State.setPair_pair_same ..

theorem decPair_pair (p : Pair16) (s : State) : (decPair p s).pair p = s.pair p - 1#16 :=
  State.setPair_pair_same ..

/-- The flags of `sp_offset` after its sum is written to a pair (R214). -/
theorem spOffsetFlags_afterFlags (e8 : Byte) (s : State) (p : Pair16) (v : Word) :
    spOffsetFlags e8 s ((s.advance 2).setPair p v) =
      afterFlags (s.setPair p v) 2 false false (spOffsetHalf s.sp e8) (spOffsetCarry s.sp e8) :=
  advance_setPair_setFlags s 2 p ..

theorem exec_ld_HL_SPe8_afterFlags (e8 : Byte) (s : State) :
    exec (.ld_HL_SPe8 e8) s =
      .next (afterFlags (s.setHL (spOffset s.sp e8)) 2 false false
        (spOffsetHalf s.sp e8) (spOffsetCarry s.sp e8)) :=
  congrArg Host.Outcome.next (spOffsetFlags_afterFlags e8 s .hl _)

theorem exec_add_SP_e8_afterFlags (e8 : Byte) (s : State) :
    exec (.add_SP_e8 e8) s =
      .next (afterFlags { s with sp := spOffset s.sp e8 } 2 false false
        (spOffsetHalf s.sp e8) (spOffsetCarry s.sp e8)) :=
  congrArg Host.Outcome.next (spOffsetFlags_afterFlags e8 s .sp _)

/-! ## The instructions -/

/-- Settles O38: the sum of the two pairs as a number, split into the bytes of `HL`. -/
theorem addPairToHL : Obligations.AddPairToHL := by
  refine fun p s => ⟨encode_addHL p, ?_⟩
  rw [exec_addHL, addHLPair_eq, BitVec.add_def, hiByte_ofNat, loByte_ofNat]
  rfl

/-- Settles O39: the pair after the instruction is the stepped one, and it is all that is written. -/
theorem incrementAndDecrementPair : Obligations.IncrementAndDecrementPair := by
  refine fun p s => ⟨encode_incPair p, encode_decPair p,
    ⟨incPair p s, exec_incPair p s, ?_, ?_⟩, ⟨decPair p s, exec_decPair p s, ?_, ?_⟩⟩
  · rw [incPair_pair]
    exact advance_setPair ..
  · rw [incPair_pair, BitVec.toNat_add]
    rfl
  · rw [decPair_pair]
    exact advance_setPair ..
  · rw [decPair_pair, BitVec.toNat_sub, Nat.add_comm]
    rfl

/-- Settles O40: the sum of `sp_offset` as a number, split into the bytes of `HL`. -/
theorem loadHLWithStackPointerOffset : Obligations.LoadHLWithStackPointerOffset := by
  refine fun e8 s => ⟨rfl, ?_⟩
  have hlow (n : Nat) : n % 65536 % 256 = n % 256 := Nat.mod_mod_of_dvd n (by decide)
  rw [exec_ld_HL_SPe8_afterFlags, spOffset_ofNat, State.setHL, hiByte_ofNat, loByte_ofNat,
    ← hlow]
  rfl

/-- Settles O41, by the sum of `sp_offset` as a number. -/
theorem addOffsetToStackPointer : Obligations.AddOffsetToStackPointer := by
  refine fun e8 s => ⟨rfl, ?_⟩
  rw [exec_add_SP_e8_afterFlags, spOffset_ofNat]
  rfl

end Sys2Proof.Machine

/-! The 8-bit loads (43_load8.md): the end of an instruction that writes a register or stores a byte,
then each load by its family. -/

namespace Sys2Proof.Machine

/-! ## The end of an instruction -/

theorem advance_setReg (s : State) (n : Nat) (r : Reg8) (v : Byte) :
    (s.advance n).setReg r v = afterNext (s.setReg r v) n := by
  cases r <;> rfl

/-- A byte stored: the registers and the control bits. -/
theorem advance_memWrite_same (s : State) (n : Nat) (x : Word) (v : Byte) :
    SameButBus (afterNext s n) ((s.advance n).memWrite x v) :=
  (s.advance n).memWrite_same x v

/-- A byte stored: what the bus reads. -/
theorem advance_memWrite_stored (s : State) (n : Nat) (x : Word) (v : Byte) :
    StoredByte s ((s.advance n).memWrite x v) x v := by
  refine ⟨?_, fun y hy => ?_⟩
  · rw [State.advance_memWrite_memRead, State.memRead_memWrite_same]
  · rw [State.advance_memWrite_memRead, State.memRead_memWrite_other s x y v hy]

/-- A write of `HL` on both sides keeps two states the same but for the bus. -/
theorem SameButBus.setHL {u t : State} (h : SameButBus u t) (w : Word) :
    SameButBus (u.setHL w) (t.setHL w) :=
  congrArg (fun r : State => r.setHL w) h

/-- A write of `HL` is not seen on the bus. -/
theorem StoredByte.setHL {s t : State} {x : Word} {v : Byte} (h : StoredByte s t x v) (w : Word) :
    StoredByte s (t.setHL w) x v := h

/-- What an instruction does that stores a byte and nothing else. -/
theorem exec_stores {i : Instr} {s : State} {n : Nat} {x : Word} {v : Byte}
    (h : exec i s = .next ((s.advance n).memWrite x v)) :
    ∃ t, exec i s = .next t ∧ SameButBus (afterNext s n) t ∧ StoredByte s t x v :=
  ⟨_, h, advance_memWrite_same s n x v, advance_memWrite_stored s n x v⟩

/-- What an instruction does that stores a byte and then writes `HL`. -/
theorem exec_stores_setHL {i : Instr} {s : State} {n : Nat} {x w : Word} {v : Byte}
    (h : exec i s = .next (((s.advance n).memWrite x v).setHL w)) :
    ∃ t, exec i s = .next t ∧ SameButBus (afterNext (s.setHL w) n) t ∧ StoredByte s t x v :=
  ⟨_, h, (advance_memWrite_same s n x v).setHL w, (advance_memWrite_stored s n x v).setHL w⟩

/-! ## The families -/

/-- The code of `LD (HL),(HL)` is that of `HALT`, which the form is (30_encoding.md R98). -/
theorem encode_ld (dst src : Operand8) :
    encode (Forms.ld dst src) = [opByte (0x40 + 8 * operandCode dst + operandCode src)] := by
  obtain r | _ := dst <;> obtain q | _ := src
  · cases r <;> cases q <;> rfl
  · cases r <;> rfl
  · cases q <;> rfl
  · rfl

theorem exec_ld {dst src : Operand8} (h : dst ≠ .mHL ∨ src ≠ .mHL) (s : State) :
    exec (Forms.ld dst src) s = .next (loadOperand dst src s) := by
  obtain r | _ := dst <;> obtain q | _ := src
  · cases r <;> cases q <;> rfl
  · cases r <;> rfl
  · cases q <;> rfl
  · simp at h

theorem encode_ldImm (dst : Operand8) (d8 : Byte) :
    encode (Forms.ldImm dst d8) = [opByte (0x06 + 8 * operandCode dst), d8] := by
  obtain r | _ := dst
  · cases r <;> rfl
  · rfl

theorem exec_ldImm (dst : Operand8) (d8 : Byte) (s : State) :
    exec (Forms.ldImm dst d8) s = .next (loadImmediate dst d8 s) := by
  obtain r | _ := dst
  · cases r <;> rfl
  · rfl

/-- A load of a register writes the register (R220 to R222). -/
theorem exec_ld_reg_afterNext (r : Reg8) (src : Operand8) (s : State) :
    exec (Forms.ld (.reg r) src) s = .next (afterNext (s.setReg r (s.operand src)) 1) := by
  rw [exec_ld (dst := .reg r) (.inl nofun), loadOperand, State.setOperand_reg, advance_setReg]

theorem exec_ldImm_reg_afterNext (r : Reg8) (d8 : Byte) (s : State) :
    exec (Forms.ldImm (.reg r) d8) s = .next (afterNext (s.setReg r d8) 2) := by
  rw [exec_ldImm, loadImmediate, State.setOperand_reg, advance_setReg]

/-- The address of `LDH` and of `(C)` by its number (R233, R235). -/
theorem pageFF_eq_ofNat (o : Byte) : pageFF o = BitVec.ofNat 16 (0xFF00 + o.toNat) := by
  rw [pageFF, BitVec.ofNat_add, BitVec.ofNat_toNat]

/-! ## The instructions -/

/-- Settles O42: the loads of a register write it alone, and the two stores are bus writes at the `HL`
the instruction finds. -/
theorem loadByte : Obligations.LoadByte := by
  refine ⟨fun r q s => ⟨encode_ld (.reg r) (.reg q), exec_ld_reg_afterNext r (.reg q) s⟩,
    fun r d8 s => ⟨encode_ldImm (.reg r) d8, exec_ldImm_reg_afterNext r d8 s⟩,
    fun r s => ⟨?_, exec_ld_reg_afterNext r .mHL s⟩,
    fun r s => ⟨encode_ld .mHL (.reg r), exec_stores ?_⟩,
    fun d8 s => ⟨rfl, exec_stores (exec_ldImm .mHL d8 s)⟩⟩
  · rw [encode_ld, Nat.add_right_comm]
    rfl
  · exact exec_ld (src := .reg r) (.inr nofun) s

/-- Settles O44: each is a bus write of `A`, and the `HL+` and `HL-` forms write `HL` after it. -/
theorem storeAccumulatorToMemory : Obligations.StoreAccumulatorToMemory := by
  intro s a8 a16
  rw [← pageFF_eq_ofNat, ← pageFF_eq_ofNat]
  exact ⟨rfl, rfl, rfl, rfl, rfl, rfl, rfl, exec_stores rfl, exec_stores rfl,
    exec_stores_setHL rfl, exec_stores_setHL rfl, exec_stores rfl, exec_stores rfl,
    exec_stores rfl⟩

/-- Settles O43: each is `loadAFrom` at its address, and the `HL+` and `HL-` forms write `HL` after it. -/
theorem loadAccumulatorFromMemory : Obligations.LoadAccumulatorFromMemory := by
  intro s a8 a16
  rw [← pageFF_eq_ofNat, ← pageFF_eq_ofNat]
  exact ⟨rfl, rfl, rfl, rfl, rfl, rfl, rfl, rfl, rfl, rfl, rfl, rfl, rfl, rfl⟩

end Sys2Proof.Machine

/-! The 16-bit loads and the stack (44_load16_stack.md R260 to R268): what a push and a 16-bit store leave
on the bus, then each instruction by its family. -/

namespace Sys2Proof.Machine

/-! ## Two bytes stored -/

/-- The low byte by its number. -/
theorem loByte_eq_ofNat_mod (v : Word) : loByte v = BitVec.ofNat 8 (v.toNat % 256) := by
  rw [← loByte_ofNat, BitVec.ofNat_toNat, BitVec.setWidth_eq]

theorem SameButBus.trans {u t r : State} (h : SameButBus u t) (h' : SameButBus t r) :
    SameButBus u r :=
  Eq.trans h' (congrArg (fun q : State =>
    { q with mem := r.mem, ifStored := r.ifStored, ieStored := r.ieStored }) h)

/-- A push: what the bus reads (R266). -/
theorem State.push16_stored (s : State) (v : Word) :
    StoredTwo s (s.push16 v) (s.sp - 1#16) (hiByte v) (s.sp - 2#16) (loByte v) := by
  refine ⟨?_, ?_, fun y hhi hlo => ?_⟩ <;> rw [State.memRead_push16]
  · rw [if_pos rfl]
  · rw [if_neg (pushed_ne s.sp).symm, if_pos rfl]
  · rw [if_neg hhi, if_neg hlo]

/-- A push in an instruction: the registers and the control bits. -/
theorem advance_push16_same (s : State) (n : Nat) (v : Word) :
    SameButBus (afterNext { s with sp := s.sp - 2#16 } n) ((s.advance n).push16 v) :=
  (s.advance n).push16_same v

/-- A push in an instruction: what the bus reads. -/
theorem advance_push16_stored (s : State) (n : Nat) (v : Word) :
    StoredTwo s ((s.advance n).push16 v) (s.sp - 1#16) (hiByte v) (s.sp - 2#16) (loByte v) :=
  (s.advance n).push16_stored v

/-- A 16-bit store: the registers and the control bits. -/
theorem storeWord_same (x v : Word) (s : State) : SameButBus s (storeWord x v s) :=
  SameButBus.trans (s.memWrite_same x _) (State.memWrite_same _ (x + 1#16) _)

/-- A 16-bit store: what the bus reads. The two addresses differ, so the second write leaves the first
byte alone (20_memory.md R65, R66). -/
theorem storeWord_stored (x v : Word) (s : State) :
    StoredTwo s (storeWord x v s) x (loByte v) (x + 1#16) (hiByte v) := by
  have hne : x ≠ x + 1#16 := by bv_omega
  refine ⟨?_, ?_, fun y hlo hhi => ?_⟩ <;> rw [storeWord]
  · rw [State.memRead_memWrite_other _ _ _ _ hne, State.memRead_memWrite_same]
  · rw [State.memRead_memWrite_same, State.readBack_memWrite]
  · rw [State.memRead_memWrite_other _ _ _ _ hhi, State.memRead_memWrite_other _ _ _ _ hlo]

/-! ## The value of a pop -/

theorem hiByte_popValue (s : State) : hiByte s.popValue = s.memRead (s.sp + 1#16) :=
  hiByte_joinBytes ..

theorem loByte_popValue (s : State) : loByte s.popValue = s.memRead s.sp :=
  loByte_joinBytes ..

/-! ## The families -/

theorem encode_push (p : StackPair) :
    encode (Forms.push p) = [opByte (0xC5 + 16 * stackCode p)] := by
  cases p <;> rfl

theorem encode_pop (p : StackPair) :
    encode (Forms.pop p) = [opByte (0xC1 + 16 * stackCode p)] := by
  cases p <;> rfl

theorem exec_push (p : StackPair) (s : State) :
    exec (Forms.push p) s = .next (pushPair p s) := by
  cases p <;> rfl

/-- `POP rr` writes `SP` and the pair (R265). -/
theorem exec_pop_afterNext (p : StackPair) (s : State) :
    exec (Forms.pop p) s = .next (afterNext (s.popped.setStackPair p s.popValue) 1) := by
  cases p <;> rfl

/-- `LD rr,d16` writes the pair (R260). -/
theorem exec_ldPair_afterNext (p : Pair16) (d16 : Word) (s : State) :
    exec (Forms.ldPair p d16) s = .next (afterNext (s.setPair p d16) 3) := by
  cases p <;> rfl

/-- `PUSH rr` stores the two bytes the pair is joined from (R264). -/
theorem pushPair_stored {p : StackPair} {s : State} {hi lo : Byte}
    (h : s.stackPair p = joinBytes hi lo) :
    StoredTwo s (pushPair p s) (s.sp - 1#16) hi (s.sp - 2#16) lo := by
  have hstored := advance_push16_stored s 1 (s.stackPair p)
  rwa [h, hiByte_joinBytes, loByte_joinBytes, ← h] at hstored

/-! ## The statements

Three of them bear the name of a family of the model, so they stand under `Statements`. -/

/-- Settles O26: a push is the two writes of `pushes`, at two addresses that differ. -/
theorem pushWritesTwoBytes : Obligations.PushWritesTwoBytes := by
  refine fun s v => ⟨s.push16_same v, ?_, fun y => (s.memRead_accesses_pushes v y).symm⟩
  rw [← loByte_eq_ofNat_mod]
  exact s.push16_stored v

/-- Settles O27: at plain addresses the two pushed bytes read back unmasked, and joined they are the
pushed value. -/
theorem stackRoundTrip : Obligations.StackRoundTrip := by
  intro s v hhiIf hhiIe hloIf hloIe
  obtain ⟨hhi, hlo, -⟩ := s.push16_stored v
  have hone : s.sp - 2#16 + 1#16 = s.sp - 1#16 := by bv_omega
  have hread : (s.push16 v).memRead (s.push16 v).sp = loByte v := by
    rw [State.push16_sp, hlo, s.readBack_plain hloIf hloIe]
  have hread' : (s.push16 v).memRead ((s.push16 v).sp + 1#16) = hiByte v := by
    rw [State.push16_sp, hone, hhi, s.readBack_plain hhiIf hhiIe]
  refine ⟨hread, hread', ?_, ?_⟩
  · rw [State.popValue, hread, hread', joinBytes_hiByte_loByte]
  · rw [State.popped_sp, State.push16_sp, BitVec.sub_add_cancel]

/-- Settles O45: a load of a pair writes it alone. -/
theorem Statements.loadPair : Obligations.LoadPair := fun d16 s =>
  ⟨rfl, rfl, rfl, rfl, rfl, exec_ldPair_afterNext .bc d16 s, exec_ldPair_afterNext .de d16 s,
    exec_ldPair_afterNext .hl d16 s, exec_ldPair_afterNext .sp d16 s, rfl⟩

/-- Settles O46, by the 16-bit store of `SP` after the fetch. -/
theorem storeStackPointer : Obligations.StoreStackPointer := by
  refine fun a16 s => ⟨rfl, storeWord a16 s.sp (s.advance 3), rfl,
    storeWord_same a16 s.sp (s.advance 3), ?_, rfl⟩
  rw [← loByte_eq_ofNat_mod]
  exact storeWord_stored a16 s.sp (s.advance 3)

/-- Settles O47: each pair is joined from its two registers, `AF` from `A` and the masked `F`. -/
theorem Statements.pushPair : Obligations.PushPair := by
  refine fun p s => ⟨encode_push p, _, exec_push p s,
    advance_push16_same s 1 (s.stackPair p), ?_⟩
  cases p with
  | bc | de | hl | af => exact pushPair_stored rfl

/-- Settles O48: the popped value is split into the two registers of the pair. -/
theorem Statements.popPair : Obligations.PopPair := by
  refine fun s => ⟨encode_pop, ?_, ?_, ?_, ?_⟩ <;> rw [exec_pop_afterNext, State.setStackPair]
  · rw [State.setBC, hiByte_popValue, loByte_popValue]
    rfl
  · rw [State.setDE, hiByte_popValue, loByte_popValue]
    rfl
  · rw [State.setHL, hiByte_popValue, loByte_popValue]
    rfl
  · rw [State.setAF, hiByte_popValue, loByte_popValue]
    rfl

end Sys2Proof.Machine

/-! The control transfers (45_control_flow.md R280 to R291): what a jump, a call and a return write,
then each instruction by its family. -/

namespace Sys2Proof.Machine

/-! ## The shared operations -/

/-- A write of `PC` on both sides keeps two states the same but for the bus. -/
theorem SameButBus.setPC {u t : State} (h : SameButBus u t) (x : Word) :
    SameButBus { u with pc := x } { t with pc := x } := by
  unfold SameButBus at h ⊢
  exact congrArg (fun r : State => { r with pc := x }) h

/-- What an instruction of `n` bytes does that pushes `next` and goes to `x` (R285, R290). -/
theorem exec_pushes_next {i : Instr} {s : State} {n : Nat} {x : Word}
    (h : exec i s = .next { (s.advance n).push16 (s.next n) with pc := x }) :
    ∃ t, exec i s = .next t ∧
      SameButBus { s with sp := s.sp - 2#16, pc := x, haltBug := false } t ∧
      StoredTwo s t (s.sp - 1#16) (hiByte (s.next n)) (s.sp - 2#16) (loByte (s.next n)) :=
  ⟨_, h, (advance_push16_same s n (s.next n)).setPC x, advance_push16_stored s n (s.next n)⟩

theorem jumpIf_eq (taken : Bool) (a16 : Word) (s : State) :
    jumpIf taken a16 s = { s with pc := if taken then a16 else s.next 3, haltBug := false } := by
  cases taken <;> rfl

theorem relTarget_eq_add_sext16 (nxt : Word) (e8 : Byte) : relTarget nxt e8 = nxt + sext16 e8 := by
  rw [relTarget, sext16_eq_signExtend]

theorem relJumpIf_eq (taken : Bool) (e8 : Byte) (s : State) :
    relJumpIf taken e8 s =
      { s with pc := if taken then s.next 2 + sext16 e8 else s.next 2, haltBug := false } := by
  rw [← relTarget_eq_add_sext16]
  cases taken <;> rfl

theorem callIf_true (a16 : Word) (s : State) :
    callIf true a16 s = { (s.advance 3).push16 (s.next 3) with pc := a16 } := rfl

theorem callIf_false (a16 : Word) (s : State) : callIf false a16 s = afterNext s 3 := rfl

theorem returnIf_true (s : State) :
    returnIf true s = { s with
      pc := joinBytes (s.memRead (s.sp + 1#16)) (s.memRead s.sp), sp := s.sp + 2#16
      haltBug := false } := rfl

theorem returnIf_false (s : State) : returnIf false s = afterNext s 1 := rfl

/-! ## The families -/

theorem encode_jpCond (cc : Cond) (a16 : Word) :
    encode (Forms.jpCond cc a16) = [opByte (0xC2 + 8 * condCode cc), loByte a16, hiByte a16] := by
  cases cc <;> rfl

theorem encode_jrCond (cc : Cond) (e8 : Byte) :
    encode (Forms.jrCond cc e8) = [opByte (0x20 + 8 * condCode cc), e8] := by
  cases cc <;> rfl

theorem encode_callCond (cc : Cond) (a16 : Word) :
    encode (Forms.callCond cc a16) =
      [opByte (0xC4 + 8 * condCode cc), loByte a16, hiByte a16] := by
  cases cc <;> rfl

theorem encode_retCond (cc : Cond) :
    encode (Forms.retCond cc) = [opByte (0xC0 + 8 * condCode cc)] := by
  cases cc <;> rfl

theorem encode_rst (y : Oct) : encode (Forms.rst y) = [opByte (0xC7 + 8 * y.toNat)] := by
  cases y <;> rfl

theorem exec_jpCond (cc : Cond) (a16 : Word) (s : State) :
    exec (Forms.jpCond cc a16) s = .next (jumpIf (s.cond cc) a16 s) := by
  cases cc <;> rfl

theorem exec_jrCond (cc : Cond) (e8 : Byte) (s : State) :
    exec (Forms.jrCond cc e8) s = .next (relJumpIf (s.cond cc) e8 s) := by
  cases cc <;> rfl

theorem exec_callCond (cc : Cond) (a16 : Word) (s : State) :
    exec (Forms.callCond cc a16) s = .next (callIf (s.cond cc) a16 s) := by
  cases cc <;> rfl

theorem exec_retCond (cc : Cond) (s : State) :
    exec (Forms.retCond cc) s = .next (returnIf (s.cond cc) s) := by
  cases cc <;> rfl

theorem exec_rst (y : Oct) (s : State) : exec (Forms.rst y) s = .next (restart y s) := by
  cases y <;> rfl

/-- `RET cc` reads the stack only if the condition holds (R288). -/
theorem dataAccesses_retCond (cc : Cond) (s : State) :
    dataAccesses s (Forms.retCond cc) = if s.cond cc then pops s else [] := by
  cases cc <;> rfl

/-! ## The statements

`return` is a word of Lean, so its theorem stands under `Statements`. -/

/-- Settles O49: `Z` and `C` are bits 7 and 4 of `F`, and the other two conditions negate them. -/
theorem conditions : Obligations.Conditions := fun s =>
  ⟨(Bool.not_eq_true' s.flagZ).to_iff, Iff.rfl, (Bool.not_eq_true' s.flagC).to_iff, Iff.rfl⟩

/-- Settles O50: a jump writes `PC` alone, with the target or with `next`. -/
theorem jump : Obligations.Jump := by
  refine fun s cc a16 => ⟨rfl, encode_jpCond cc a16, rfl, ?_⟩
  rw [exec_jpCond, jumpIf_eq]

/-- Settles O51: a relative jump writes `PC` alone, and its offset is the sign extension of `e8`. -/
theorem relativeJump : Obligations.RelativeJump := by
  refine fun s cc e8 => ⟨rfl, encode_jrCond cc e8, ?_, ?_⟩
  · exact congrArg Host.Outcome.next (relJumpIf_eq true e8 s)
  · rw [exec_jrCond, relJumpIf_eq]

/-- Settles O52: a call that is taken is the push of `next` and a write of `PC`; one that is not taken
only commits `next`. -/
theorem call : Obligations.Call := by
  refine ⟨fun s a16 => ⟨rfl, exec_pushes_next rfl⟩,
    fun s cc a16 => ⟨encode_callCond cc a16, fun htaken => exec_pushes_next ?_, fun hnot => ?_⟩⟩
  · rw [exec_callCond, htaken, callIf_true]
  · rw [exec_callCond, hnot, callIf_false]

/-- Settles O53: a return that is taken pops `PC`; one that is not taken commits `next` and makes no
access. -/
theorem Statements.return : Obligations.Return := by
  refine fun s cc => ⟨rfl, encode_retCond cc, congrArg Host.Outcome.next (returnIf_true s),
    fun htaken => ?_, fun hnot => ⟨?_, ?_⟩⟩
  · rw [exec_retCond, htaken, returnIf_true]
  · rw [exec_retCond, hnot, returnIf_false]
  · rw [dataAccesses_retCond, hnot]
    rfl

/-- Settles O54: `JP HL` writes `PC` alone, `RETI` is `RET` with `IME` set, and `RST` is the call of a
fixed address by an instruction of one byte. -/
theorem jumpHLRestartReturnEnable : Obligations.JumpHLRestartReturnEnable :=
  ⟨fun _ => ⟨rfl, rfl, rfl, rfl, rfl⟩,
    fun s y => ⟨encode_rst y, exec_pushes_next (exec_rst y s)⟩⟩

end Sys2Proof.Machine

/-! The system instructions (46_system.md R310 to R313): what NOP, EI, DI and each case of HALT write. -/

namespace Sys2Proof.Machine

/-- `IF` holds five bits, so bits 5 to 7 of `IE` play no part in which sources are pending. -/
theorem State.zeroExtend_pending (s : State) :
    s.pending.zeroExtend 8 = s.ieStored &&& s.ifStored.zeroExtend 8 := by
  ext i hi
  by_cases h5 : i < 5
  · simp [State.pending, h5, hi, BitVec.getElem_setWidth, BitVec.getLsbD_eq_getElem]
  · simp [State.pending, BitVec.getElem_setWidth, BitVec.getLsbD_of_ge _ i (not_lt.mp h5)]

/-- Nothing is pending just when `IE & IF` is 0 (R311). -/
theorem State.pending_eq_zero_iff (s : State) :
    s.pending = 0#5 ↔ s.ieStored &&& s.ifStored.zeroExtend 8 = 0#8 := by
  rw [← s.zeroExtend_pending]
  constructor
  · intro h
    rw [h]
    rfl
  · intro h
    simpa using congrArg (BitVec.setWidth 5) h

/-- Cases 1 and 2 of `HALT` (R311). -/
theorem exec_halt_of_halts {s : State} (h : s.ime = true ∨ s.pending = 0#5) :
    exec .halt s = .next { afterNext s 1 with halted := true } :=
  congrArg Host.Outcome.next (if_pos h)

/-- Case 3 of `HALT` (R311), the halt bug. -/
theorem exec_halt_of_haltBug {s : State} (hime : s.ime = false) (hpending : s.pending ≠ 0#5) :
    exec .halt s = .next { afterNext s 1 with haltBug := true } :=
  congrArg Host.Outcome.next (if_neg (by simp [hime, hpending]))

/-- Settles O56: the three cases of `HALT` are the two branches of its test, and the test of `pending`
is one of `IE & IF`. -/
theorem haltThreeCases : Obligations.HaltThreeCases := fun s =>
  ⟨rfl, fun hime => exec_halt_of_halts (.inl hime),
    fun _ hnone => exec_halt_of_halts (.inr (s.pending_eq_zero_iff.mpr hnone)),
    fun hime hsome => exec_halt_of_haltBug hime (mt s.pending_eq_zero_iff.mp hsome)⟩

/-- Settles O55: each of the three is a write of at most `IME` and the schedule, and the commit of
`next`, so the two sides are the same state by computation. -/
theorem nopAndInterruptEnables : Obligations.NopAndInterruptEnables := fun _ =>
  ⟨rfl, rfl, rfl, rfl, rfl, rfl⟩

end Sys2Proof.Machine

/-! The CB-prefixed instructions (47_cb_prefixed.md R320 to R342): the number each rotate and shift
stands for, then each instruction by its family. -/

namespace Sys2Proof.Machine

/-! ## Rotates and shifts by their numbers -/

theorem ofNat_mod_256 (n : Nat) : BitVec.ofNat 8 (n % 256) = BitVec.ofNat 8 n := by
  apply BitVec.eq_of_toNat_eq
  rw [BitVec.toNat_ofNat, BitVec.toNat_ofNat, Nat.mod_mod]

/-- A shift to the left leaves bit 0 free. -/
theorem shiftLeft_one_eq (v : Byte) : v <<< 1 = BitVec.ofNat 8 (2 * v.toNat) := by
  rw [← (v <<< 1).or_zero]
  exact shiftLeft_or_bitByte v false

/-- A shift to the right leaves bit 7 free. -/
theorem shiftRight_one_eq (v : Byte) : v >>> 1 = BitVec.ofNat 8 (v.toNat / 2) := by
  rw [← (v >>> 1).or_zero]
  exact shiftRight_or_bitByte v false

/-- `SRA` keeps the top bit in place (R342). -/
theorem and_top_bit (v : Byte) : v &&& 0x80#8 = bitByte (v.getLsbD 7) <<< 7 :=
  (BitVec.and_twoPow v 7).trans (by cases v.getLsbD 7 <;> rfl)

/-- The two nibbles exchanged: the low one moved up leaves four bits free for the high one. -/
theorem swap_nibbles (v : Byte) :
    (v &&& 0x0F#8) <<< 4 ||| v >>> 4 = BitVec.ofNat 8 (v.toNat % 16 * 16 + v.toNat / 16) := by
  have hhigh : v.toNat / 2 ^ 4 < 2 ^ 4 := by omega
  have hlow : v.toNat % 2 ^ 4 * 2 ^ 4 < 2 ^ 8 := by omega
  have hfree : v.toNat % 2 ^ 4 * 2 ^ 4 + v.toNat / 2 ^ 4 =
      v.toNat % 2 ^ 4 * 2 ^ 4 ||| v.toNat / 2 ^ 4 := by
    rw [Nat.mul_comm]
    exact Nat.two_pow_add_eq_or_of_lt hhigh _
  have hnibble : (v &&& 0x0F#8).toNat = v.toNat % 2 ^ 4 := Nat.and_two_pow_sub_one_eq_mod v.toNat 4
  apply BitVec.eq_of_toNat_eq
  rw [BitVec.toNat_or, BitVec.toNat_shiftLeft, BitVec.toNat_ushiftRight, hnibble, Nat.shiftLeft_eq,
    Nat.mod_eq_of_lt hlow, Nat.shiftRight_eq_div_pow, ← hfree, BitVec.toNat_ofNat]
  omega

/-- The result of a rotate or shift is a byte. -/
theorem shiftNumber_lt (op : ShiftOp) (v : Byte) (cin : Bool) :
    shiftNumber op v.toNat cin.toNat < 256 := by
  have hv := v.isLt
  have hcin := cin.toNat_le
  cases op <;> rw [shiftNumber] <;> omega

theorem shiftRes_eq (op : ShiftOp) (v : Byte) (cin : Bool) :
    shiftRes op v cin = BitVec.ofNat 8 (shiftNumber op v.toNat cin.toNat) := by
  cases op <;> rw [shiftRes, shiftNumber]
  case rlc => rw [shiftLeft_or_bitByte, toNat_getLsbD_seven, ofNat_mod_256]
  case rrc => rw [shiftRight_or_bitByte, toNat_getLsbD_zero]
  case rl => rw [shiftLeft_or_bitByte, ofNat_mod_256]
  case rr => rw [shiftRight_or_bitByte]
  case sla => rw [shiftLeft_one_eq, ofNat_mod_256]
  case sra => rw [and_top_bit, shiftRight_or_bitByte, toNat_getLsbD_seven]
  case swap => rw [swap_nibbles]
  case srl => rw [shiftRight_one_eq]

theorem shiftRes_beq_zero (op : ShiftOp) (v : Byte) (cin : Bool) :
    (shiftRes op v cin == 0#8) = decide (shiftNumber op v.toNat cin.toNat = 0) := by
  rw [shiftRes_eq, ofNat_beq_zero, Nat.mod_eq_of_lt (shiftNumber_lt op v cin)]

theorem shiftCarry_eq (op : ShiftOp) (v : Byte) : shiftCarry op v = shiftedOut op v.toNat := by
  cases op with
  | rlc | rl | sla => exact getLsbD_seven v
  | rrc | rr | sra | srl => exact getLsbD_zero v
  | swap => rfl

/-- A rotate or shift by its numbers. -/
theorem shiftOperand_by_number (op : ShiftOp) (r : Operand8) (s : State) :
    shiftOperand op r s =
      ((s.advance 2).setOperand r
          (BitVec.ofNat 8 (shiftNumber op (s.operand r).toNat s.flagC.toNat))).setFlags
        (decide (shiftNumber op (s.operand r).toNat s.flagC.toNat = 0)) false false
        (shiftedOut op (s.operand r).toNat) := by
  rw [shiftOperand, shiftRes_beq_zero, shiftRes_eq, shiftCarry_eq]

/-! ## The families -/

theorem encode_shift (op : ShiftOp) (r : Operand8) :
    encode (Forms.shift op r) = [0xCB#8, opByte (8 * shiftCode op + operandCode r)] := by
  obtain r | _ := r
  · cases op <;> cases r <;> rfl
  · cases op <;> rfl

theorem encode_bit (b : Oct) (r : Operand8) :
    encode (Forms.bit b r) = [0xCB#8, opByte (0x40 + 8 * b.toNat + operandCode r)] := by
  obtain r | _ := r
  · cases b <;> cases r <;> rfl
  · cases b <;> rfl

theorem encode_res (b : Oct) (r : Operand8) :
    encode (Forms.res b r) = [0xCB#8, opByte (0x80 + 8 * b.toNat + operandCode r)] := by
  obtain r | _ := r
  · cases b <;> cases r <;> rfl
  · cases b <;> rfl

theorem encode_set (b : Oct) (r : Operand8) :
    encode (Forms.set b r) = [0xCB#8, opByte (0xC0 + 8 * b.toNat + operandCode r)] := by
  obtain r | _ := r
  · cases b <;> cases r <;> rfl
  · cases b <;> rfl

theorem exec_shift (op : ShiftOp) (r : Operand8) (s : State) :
    exec (Forms.shift op r) s = .next (shiftOperand op r s) := by
  obtain r | _ := r
  · cases op <;> cases r <;> rfl
  · cases op <;> rfl

theorem exec_bit (b : Oct) (r : Operand8) (s : State) :
    exec (Forms.bit b r) s = .next (testOperand b r s) := by
  obtain r | _ := r
  · cases b <;> cases r <;> rfl
  · cases b <;> rfl

theorem exec_res (b : Oct) (r : Operand8) (s : State) :
    exec (Forms.res b r) s = .next (resetOperand b r s) := by
  obtain r | _ := r
  · cases b <;> cases r <;> rfl
  · cases b <;> rfl

theorem exec_set (b : Oct) (r : Operand8) (s : State) :
    exec (Forms.set b r) s = .next (setOperandBit b r s) := by
  obtain r | _ := r
  · cases b <;> cases r <;> rfl
  · cases b <;> rfl

/-- `RES` of a register writes it alone (R338). -/
theorem exec_res_reg_afterNext (b : Oct) (r : Reg8) (s : State) :
    exec (Forms.res b (.reg r)) s = .next (afterNext (s.setReg r (resetBit b (s.reg r))) 2) := by
  rw [exec_res, resetOperand, State.operand_reg, State.setOperand_reg, advance_setReg]

/-- `SET` of a register writes it alone (R340). -/
theorem exec_set_reg_afterNext (b : Oct) (r : Reg8) (s : State) :
    exec (Forms.set b (.reg r)) s = .next (afterNext (s.setReg r (setBit b (s.reg r))) 2) := by
  rw [exec_set, setOperandBit, State.operand_reg, State.setOperand_reg, advance_setReg]

/-- A rotate or shift of the byte at `HL` reads it and writes the result there (20_memory.md R68). -/
theorem dataAccesses_shift_mHL (op : ShiftOp) (s : State) :
    dataAccesses s (Forms.shift op .mHL) =
      updates s (shiftRes op (s.memRead s.hl) s.flagC) := by
  cases op <;> rfl

theorem dataAccesses_bit_mHL (b : Oct) (s : State) :
    dataAccesses s (Forms.bit b .mHL) = [.read s.hl] := by
  cases b <;> rfl

/-- The flag `Z` of `BIT` by the number of its operand (R336). -/
theorem not_getLsbD_eq_decide (v : Byte) (n : Nat) :
    (!v.getLsbD n) = decide (v.toNat / 2 ^ n % 2 = 0) := by
  rw [← BitVec.testBit_toNat, Nat.testBit_eq_decide_div_mod_eq, ← decide_not, decide_eq_decide]
  exact Nat.mod_two_not_eq_one

/-! ## The statements -/

/-- Settles O57: `shiftOperand_by_number`, with the register and the flags written. -/
theorem rotateAndShiftRegister : Obligations.RotateAndShiftRegister := by
  refine fun op r s => ⟨encode_shift op (.reg r), ?_⟩
  rw [exec_shift, shiftOperand_by_number, advance_setReg_setFlags]
  rfl

/-- Settles O58: `shiftOperand_by_number`, with the byte at `HL` and the flags written. -/
theorem rotateAndShiftMemory : Obligations.RotateAndShiftMemory := by
  refine fun op s => ⟨encode_shift op .mHL, shiftOperand op .mHL s, exec_shift op .mHL s, ?_, ?_, ?_⟩
  · rw [shiftOperand_by_number]
    exact advance_setMHL_setFlags_same ..
  · rw [shiftOperand_by_number]
    exact advance_setMHL_setFlags_stored ..
  · rw [dataAccesses_shift_mHL, shiftRes_eq, updates]

/-- Settles O59: `BIT` writes the flags alone, `Z` by the number of the operand. -/
theorem testBit : Obligations.TestBit := by
  refine fun b r s => ⟨encode_bit b r, ?_, dataAccesses_bit_mHL b s⟩
  rw [exec_bit, testOperand, advance_setFlags, not_getLsbD_eq_decide]

/-- Settles O60: each writes its operand alone, a register or the byte at `HL`. -/
theorem resetAndSetBit : Obligations.ResetAndSetBit := by
  refine ⟨fun b r s => ⟨encode_res b (.reg r), encode_set b (.reg r), exec_res_reg_afterNext b r s,
      exec_set_reg_afterNext b r s⟩,
    fun b s => ⟨?_, ?_, exec_stores (exec_res b .mHL s), exec_stores (exec_set b .mHL s)⟩⟩
  · rw [encode_res, Nat.add_right_comm]
    rfl
  · rw [encode_set, Nat.add_right_comm]
    rfl

end Sys2Proof.Machine

/-! Interrupts and completion (60_exceptions.md R353 to R358): the source a dispatch serves, the state it
leaves, and that no instruction raises anything. -/

namespace Sys2Proof.Machine

/-! ## The served source -/

/-- The lowest pending source is the one served (R357). -/
theorem lowestPending_eq_some {p : BitVec 5} {i : IntSource} (hi : p.getLsbD (intBit i) = true)
    (hlow : ∀ k, k < intBit i → p.getLsbD k = false) : lowestPending p = some i := by
  have skip (k : Nat) (hk : k < intBit i) : ¬p.getLsbD k = true := by
    rw [hlow k hk]
    exact Bool.false_ne_true
  unfold lowestPending
  cases i with
  | vblank => exact if_pos hi
  | lcdStat =>
    rw [if_neg (skip 0 (by decide))]
    exact if_pos hi
  | timer =>
    rw [if_neg (skip 0 (by decide)), if_neg (skip 1 (by decide))]
    exact if_pos hi
  | serial =>
    rw [if_neg (skip 0 (by decide)), if_neg (skip 1 (by decide)), if_neg (skip 2 (by decide))]
    exact if_pos hi
  | joypad =>
    rw [if_neg (skip 0 (by decide)), if_neg (skip 1 (by decide)), if_neg (skip 2 (by decide)),
      if_neg (skip 3 (by decide))]
    exact if_pos hi

theorem State.toDispatch_eq_some {s : State} {i : IntSource} (hime : s.ime = true)
    (hi : s.pending.getLsbD (intBit i) = true)
    (hlow : ∀ k, k < intBit i → s.pending.getLsbD k = false) : s.toDispatch = some i :=
  (if_pos hime).trans (lowestPending_eq_some hi hlow)

/-! ## The state a dispatch leaves -/

/-- With an interrupt pending the woken core runs, whether it was halted or not (R133). -/
theorem State.wake_of_pending_running {s : State} (hp : s.pending ≠ 0#5) :
    s.wake = { s with halted := false } := by
  rw [s.wake_eq, beq_false_of_ne hp, Bool.and_false]

theorem State.memWrite_halted_comm (s : State) (b : Bool) (x : Word) (v : Byte) :
    ({ s with halted := b } : State).memWrite x v = { s.memWrite x v with halted := b } := by
  unfold State.memWrite
  split_ifs <;> rfl

/-- A push does not see `halted`. -/
theorem State.push16_halted_comm (s : State) (b : Bool) (v : Word) :
    ({ s with halted := b } : State).push16 v = { s.push16 v with halted := b } := by
  simp only [State.push16_eq, State.memWrite_halted_comm]

/-- The fields a dispatch writes (R358). -/
theorem State.dispatch_eq (s : State) (i : IntSource) :
    s.dispatch i =
      { s with
        ime := false
        sp := s.sp - 2#16
        pc := vectorOf s.cfg.vectors i
        mem := (s.push16 s.pc).mem
        ieStored := (s.push16 s.pc).ieStored
        ifStored := (s.push16 s.pc).ifStored &&& ~~~(1#5 <<< intBit i) } := by
  rw [State.dispatch, s.push16_same s.pc]

/-! ## The statements -/

/-- Settles O8: the pending source wakes the core, so the step is the dispatch of the woken state, whose
push is that of the state itself. -/
theorem interruptDispatch : Obligations.InterruptDispatch := by
  intro s i hf hime hi hlow
  have hp : s.pending ≠ 0#5 := fun h0 => by simp [h0] at hi
  have hw := State.wake_of_pending_running hp
  have hh : s.wake.halted = false := by rw [hw]
  have hserved : s.wake.toDispatch = some i := by
    rw [← s.wake_pending] at hi hlow
    exact State.toDispatch_eq_some (s.wake_ime.trans hime) hi hlow
  rw [step_of_dispatch hf hh hserved, hw, State.dispatch_eq, State.push16_halted_comm]

/-- Settles O13: every instruction completes, and only a failing fetch writes the latch. -/
theorem mappedInstructionCompletes : Obligations.MappedInstructionCompletes := by
  intro i s hi
  obtain ⟨t, ht⟩ := exec_completes i s
  exact ⟨t, ht, exec_keeps_fault hi ht, exec_keeps_cfg ht⟩

end Sys2Proof.Machine
